-- ==== Sys2Proof/Word.lean ====
section
/-! DEFINITION. Word.lean: the bit-vector types of the block, the three channel indices and a triple
indexed by them (00_scope R7, 10_state R12). -/

namespace Sys2Proof

/-- A bus byte, `u8` (00_scope R7). -/
abbrev Byte := BitVec 8

/-- A count latch, `u16` (10_state R21, R23). -/
abbrev Count := BitVec 16

/-- A phase or a step, `u32` (10_state R21, R26). -/
abbrev Phase := BitVec 32

/-- An output sample or a volume, `s16` in two's complement (00_scope R7; 20 R44: a value, no byte order). -/
abbrev Sample := BitVec 16

/-- The 64-bit encoding of one operation (30 R61). -/
abbrev Record := BitVec 64

/-- A channel index `0..2`, of the tone trio or of the music trio (00_scope section 7, "Channel"). -/
inductive Chan where
  | ch0
  | ch1
  | ch2
  deriving DecidableEq, Repr

/-- The channel's number. -/
def Chan.index : Chan → Nat
  | .ch0 => 0
  | .ch1 => 1
  | .ch2 => 2

/-- Three like things, one per channel: the `x[0..2]` of 10_state. -/
structure Trio (α : Type) where
  ch0 : α
  ch1 : α
  ch2 : α
  deriving DecidableEq, Repr

/-- `x[ch]`. -/
def Trio.get {α : Type} (x : Trio α) : Chan → α
  | .ch0 => x.ch0
  | .ch1 => x.ch1
  | .ch2 => x.ch2

/-- `x[ch] <- v`. -/
def Trio.set {α : Type} (x : Trio α) (ch : Chan) (v : α) : Trio α :=
  match ch with
  | .ch0 => { x with ch0 := v }
  | .ch1 => { x with ch1 := v }
  | .ch2 => { x with ch2 := v }

/-- The same value in all three places. -/
def Trio.fill {α : Type} (v : α) : Trio α := ⟨v, v, v⟩

end Sys2Proof
end

