-- ==== Sys2Proof/Syntax.lean ====
section
/-! DEFINITION. Syntax.lean: the operations an agent can issue (30 R60, R66), one constructor per
mnemonic of spec/opcode_table.json, the four bus units and the reasons a record is reserved. -/

namespace Sys2Proof

/-- The four register spaces (20 R40), in the code order of 30 R61. -/
inductive BusUnit where
  | it
  | tt
  | mt
  | sfx
  deriving DecidableEq, Repr

/-- The reasons for which a record is reserved (30 R68). -/
inductive Reserved where
  /-- `kind` in 5..15. -/
  | kind
  /-- A non-zero `z1` or `z2`. -/
  | zeroField
  /-- An offset beyond the unit's width. -/
  | offset
  /-- A read with non-zero `data` or `cnt`. -/
  | readOperand
  /-- A `RENDER`, `IT.ADV` or `RESET` with non-zero `unit`, `off` or `data`. -/
  | busField
  /-- A `RESET` with non-zero `cnt`. -/
  | resetCount
  deriving DecidableEq, Repr

/-- The operations (30 R66). In a write, `data` is the byte and `k` the flush count (46 R186); `aliased`
is the ignored offset bit 1 of the two aliased reads (30 R64); `off` is the offset of a catch-all row. -/
inductive Instr where
  | itWpad (data : Byte) (k : BitVec 32)
  | itWpaddr (data : Byte) (k : BitVec 32)
  | itWpbd (data : Byte) (k : BitVec 32)
  | itWpbddr (data : Byte) (k : BitVec 32)
  | itLd1 (data : Byte) (k : BitVec 32)
  | itLd8 (data : Byte) (k : BitVec 32)
  | itLd64 (data : Byte) (k : BitVec 32)
  | itLd1k (data : Byte) (k : BitVec 32)
  | itLd1i (data : Byte) (k : BitVec 32)
  | itLd8i (data : Byte) (k : BitVec 32)
  | itLd64i (data : Byte) (k : BitVec 32)
  | itLd1ki (data : Byte) (k : BitVec 32)
  | itWign (off : BitVec 5) (data : Byte) (k : BitVec 32)
  | itRpad
  | itRpaddr
  | itRpbd
  | itRpbddr
  | itRcnt (aliased : Bool)
  | itRflg (aliased : Bool)
  | itRund (off : BitVec 5)
  | ttWcr (data : Byte) (k : BitVec 32)
  | ttWmc (data : Byte) (k : BitVec 32)
  | ttWmsb2 (data : Byte) (k : BitVec 32)
  | ttWmsb4 (data : Byte) (k : BitVec 32)
  | ttWmsb6 (data : Byte) (k : BitVec 32)
  | ttWlsb0 (data : Byte) (k : BitVec 32)
  | ttWlsb1 (data : Byte) (k : BitVec 32)
  | ttWlsb2 (data : Byte) (k : BitVec 32)
  | ttRund (off : BitVec 3)
  | mtWcnt0 (data : Byte) (k : BitVec 32)
  | mtWcnt1 (data : Byte) (k : BitVec 32)
  | mtWcnt2 (data : Byte) (k : BitVec 32)
  | mtWgate (data : Byte) (k : BitVec 32)
  | mtRund (off : BitVec 2)
  | sfxWctl (data : Byte) (k : BitVec 32)
  | sfxWvol0 (data : Byte) (k : BitVec 32)
  | sfxWvol1 (data : Byte) (k : BitVec 32)
  | sfxWvol2 (data : Byte) (k : BitVec 32)
  | sfxRund (off : BitVec 2)
  | render (n : BitVec 32)
  | itAdv (t : BitVec 32)
  | reset
  deriving DecidableEq, Repr

/-- The operation's mnemonic, as spec/opcode_table.json spells it (30 R66). -/
def Instr.mnemonic : Instr → String
  | .itWpad _ _ => "IT.WPAD"
  | .itWpaddr _ _ => "IT.WPADDR"
  | .itWpbd _ _ => "IT.WPBD"
  | .itWpbddr _ _ => "IT.WPBDDR"
  | .itLd1 _ _ => "IT.LD1"
  | .itLd8 _ _ => "IT.LD8"
  | .itLd64 _ _ => "IT.LD64"
  | .itLd1k _ _ => "IT.LD1K"
  | .itLd1i _ _ => "IT.LD1I"
  | .itLd8i _ _ => "IT.LD8I"
  | .itLd64i _ _ => "IT.LD64I"
  | .itLd1ki _ _ => "IT.LD1KI"
  | .itWign _ _ _ => "IT.WIGN"
  | .itRpad => "IT.RPAD"
  | .itRpaddr => "IT.RPADDR"
  | .itRpbd => "IT.RPBD"
  | .itRpbddr => "IT.RPBDDR"
  | .itRcnt _ => "IT.RCNT"
  | .itRflg _ => "IT.RFLG"
  | .itRund _ => "IT.RUND"
  | .ttWcr _ _ => "TT.WCR"
  | .ttWmc _ _ => "TT.WMC"
  | .ttWmsb2 _ _ => "TT.WMSB2"
  | .ttWmsb4 _ _ => "TT.WMSB4"
  | .ttWmsb6 _ _ => "TT.WMSB6"
  | .ttWlsb0 _ _ => "TT.WLSB0"
  | .ttWlsb1 _ _ => "TT.WLSB1"
  | .ttWlsb2 _ _ => "TT.WLSB2"
  | .ttRund _ => "TT.RUND"
  | .mtWcnt0 _ _ => "MT.WCNT0"
  | .mtWcnt1 _ _ => "MT.WCNT1"
  | .mtWcnt2 _ _ => "MT.WCNT2"
  | .mtWgate _ _ => "MT.WGATE"
  | .mtRund _ => "MT.RUND"
  | .sfxWctl _ _ => "SFX.WCTL"
  | .sfxWvol0 _ _ => "SFX.WVOL0"
  | .sfxWvol1 _ _ => "SFX.WVOL1"
  | .sfxWvol2 _ _ => "SFX.WVOL2"
  | .sfxRund _ => "SFX.RUND"
  | .render _ => "RENDER"
  | .itAdv _ => "IT.ADV"
  | .reset => "RESET"

end Sys2Proof
end

