-- ==== Sys2Proof/WellFormed.lean ====
section
/-! DEFINITION. WellFormed.lean: the operand checks the types do not make (30 R66). The two catch-all
operations of the interval timer have an offset only in the set that no other row decodes. -/

namespace Sys2Proof

/-- The offsets of `IT.WIGN` (46 R188): `0x04..0x13` and `0x18..0x1B`. -/
def ignoredWriteOffset (off : BitVec 5) : Bool :=
  (0x04#5 ≤ off && off ≤ 0x13#5) || (0x18#5 ≤ off && off ≤ 0x1B#5)

/-- The offsets of `IT.RUND` (46 R189): `0x08..0x1F`. -/
def undefinedReadOffset (off : BitVec 5) : Bool :=
  0x08#5 ≤ off

/-- Every operand lies in the set its rows of the opcode table admit. -/
def Instr.wellFormed : Instr → Bool
  | .itWign off _ _ => ignoredWriteOffset off
  | .itRund off => undefinedReadOffset off
  | .itWpad _ _ | .itWpaddr _ _ | .itWpbd _ _ | .itWpbddr _ _ => true
  | .itLd1 _ _ | .itLd8 _ _ | .itLd64 _ _ | .itLd1k _ _ => true
  | .itLd1i _ _ | .itLd8i _ _ | .itLd64i _ _ | .itLd1ki _ _ => true
  | .itRpad | .itRpaddr | .itRpbd | .itRpbddr | .itRcnt _ | .itRflg _ => true
  | .ttWcr _ _ | .ttWmc _ _ | .ttWmsb2 _ _ | .ttWmsb4 _ _ | .ttWmsb6 _ _ => true
  | .ttWlsb0 _ _ | .ttWlsb1 _ _ | .ttWlsb2 _ _ | .ttRund _ => true
  | .mtWcnt0 _ _ | .mtWcnt1 _ _ | .mtWcnt2 _ _ | .mtWgate _ _ | .mtRund _ => true
  | .sfxWctl _ _ | .sfxWvol0 _ _ | .sfxWvol1 _ _ | .sfxWvol2 _ _ | .sfxRund _ => true
  | .render _ | .itAdv _ | .reset => true

end Sys2Proof
end

