-- ==== Sys2Proof/Decode.lean ====
section
/-! DEFINITION. Decode.lean: the 64-bit record (30 R61) to an operation, total, rejecting by name
(30 R68); the encoder beside it; and the opcode table of 30 R66 as data. -/

namespace Sys2Proof

/-- The fields of a record (30 R61). -/
structure Fields where
  kind : BitVec 4
  unitSel : BitVec 2
  off : BitVec 5
  z1 : BitVec 5
  data : Byte
  z2 : Byte
  cnt : BitVec 32
  deriving DecidableEq, Repr

/-- The fields at their bit positions (30 R61's table). -/
def fieldsOf (w : Record) : Fields where
  kind := w.extractLsb' 60 4
  unitSel := w.extractLsb' 58 2
  off := w.extractLsb' 53 5
  z1 := w.extractLsb' 48 5
  data := w.extractLsb' 40 8
  z2 := w.extractLsb' 32 8
  cnt := w.extractLsb' 0 32

/-- The number a record is (30 R61), with the two zero fields in their places. -/
def pack (f : Fields) : Record :=
  BitVec.ofNat 64
    (f.kind.toNat * 2 ^ 60 + f.unitSel.toNat * 2 ^ 58 + f.off.toNat * 2 ^ 53 + f.z1.toNat * 2 ^ 48 +
      f.data.toNat * 2 ^ 40 + f.z2.toNat * 2 ^ 32 + f.cnt.toNat)

/-- The unit a unit code selects (30 R61). -/
def unitOf (u : BitVec 2) : BusUnit :=
  match u.toNat with
  | 0 => .it
  | 1 => .tt
  | 2 => .mt
  | _ => .sfx

/-- The code of a unit (30 R61). -/
def unitCode : BusUnit → BitVec 2
  | .it => 0#2
  | .tt => 1#2
  | .mt => 2#2
  | .sfx => 3#2

/-- The row of a bus write (30 R66; 46 R186, R190). -/
def decodeWrite (u : BusUnit) (off : BitVec 5) (data : Byte) (k : BitVec 32) : Except Reserved Instr :=
  match u with
  | .it =>
    match off.toNat with
    | 0x00 => .ok (.itWpad data k)
    | 0x01 => .ok (.itWpaddr data k)
    | 0x02 => .ok (.itWpbd data k)
    | 0x03 => .ok (.itWpbddr data k)
    | 0x14 => .ok (.itLd1 data k)
    | 0x15 => .ok (.itLd8 data k)
    | 0x16 => .ok (.itLd64 data k)
    | 0x17 => .ok (.itLd1k data k)
    | 0x1C => .ok (.itLd1i data k)
    | 0x1D => .ok (.itLd8i data k)
    | 0x1E => .ok (.itLd64i data k)
    | 0x1F => .ok (.itLd1ki data k)
    | _ => .ok (.itWign off data k)
  | .tt =>
    match off.toNat with
    | 0 => .ok (.ttWcr data k)
    | 1 => .ok (.ttWmc data k)
    | 2 => .ok (.ttWmsb2 data k)
    | 3 => .ok (.ttWlsb0 data k)
    | 4 => .ok (.ttWmsb4 data k)
    | 5 => .ok (.ttWlsb1 data k)
    | 6 => .ok (.ttWmsb6 data k)
    | 7 => .ok (.ttWlsb2 data k)
    | _ => .error .offset
  | .mt =>
    match off.toNat with
    | 0 => .ok (.mtWcnt0 data k)
    | 1 => .ok (.mtWcnt1 data k)
    | 2 => .ok (.mtWcnt2 data k)
    | 3 => .ok (.mtWgate data k)
    | _ => .error .offset
  | .sfx =>
    match off.toNat with
    | 0 => .ok (.sfxWctl data k)
    | 1 => .ok (.sfxWvol0 data k)
    | 2 => .ok (.sfxWvol1 data k)
    | 3 => .ok (.sfxWvol2 data k)
    | _ => .error .offset

/-- The row of a bus read (30 R66; 46 R185, R190); offset bit 1 is ignored by the two aliased reads
(30 R64) and kept as an operand so that the record can be given back. -/
def decodeRead (u : BusUnit) (off : BitVec 5) : Except Reserved Instr :=
  match u with
  | .it =>
    match off.toNat with
    | 0x00 => .ok .itRpad
    | 0x01 => .ok .itRpaddr
    | 0x02 => .ok .itRpbd
    | 0x03 => .ok .itRpbddr
    | 0x04 => .ok (.itRcnt false)
    | 0x05 => .ok (.itRflg false)
    | 0x06 => .ok (.itRcnt true)
    | 0x07 => .ok (.itRflg true)
    | _ => .ok (.itRund off)
  | .tt => if off.toNat ≤ 7 then .ok (.ttRund (off.setWidth 3)) else .error .offset
  | .mt => if off.toNat ≤ 3 then .ok (.mtRund (off.setWidth 2)) else .error .offset
  | .sfx => if off.toNat ≤ 3 then .ok (.sfxRund (off.setWidth 2)) else .error .offset

/-- `RENDER`, `IT.ADV` and `RESET` carry no unit, offset or data (30 R68). -/
def busFieldsZero (f : Fields) : Bool :=
  f.unitSel == 0#2 && f.off == 0#5 && f.data == 0#8

/-- The operation of a record's fields (30 R61, R66), or why the record is reserved (30 R68). -/
def decodeFields (f : Fields) : Except Reserved Instr :=
  if f.z1 ≠ 0#5 ∨ f.z2 ≠ 0#8 then .error .zeroField
  else
    match f.kind.toNat with
    | 0 => if f.data = 0#8 ∧ f.cnt = 0#32 then decodeRead (unitOf f.unitSel) f.off else .error .readOperand
    | 1 => decodeWrite (unitOf f.unitSel) f.off f.data f.cnt
    | 2 => if busFieldsZero f then .ok (.render f.cnt) else .error .busField
    | 3 => if busFieldsZero f then .ok (.itAdv f.cnt) else .error .busField
    | 4 =>
      if busFieldsZero f then if f.cnt = 0#32 then .ok .reset else .error .resetCount
      else .error .busField
    | _ => .error .kind

/-- The decoder: total on 64-bit records. -/
def decode (w : Record) : Except Reserved Instr := decodeFields (fieldsOf w)

/-- The decoder on a row of spec/opcode_table.json: the record's low `nbits` bits are those of `w`, the
bits above are zero. A record is a number and has no byte order (20 R44; 30 R61). -/
def decodeTableWord (nbits w : Nat) : Option Instr :=
  let v := w % 2 ^ nbits
  if v < 2 ^ 64 then (decode (BitVec.ofNat 64 v)).toOption else none

/-- The fields of a write record (30 R61). -/
def writeFields (u : BusUnit) (off : BitVec 5) (data : Byte) (k : BitVec 32) : Fields :=
  ⟨1#4, unitCode u, off, 0#5, data, 0#8, k⟩

/-- The fields of a read record (30 R61). -/
def readFields (u : BusUnit) (off : BitVec 5) : Fields :=
  ⟨0#4, unitCode u, off, 0#5, 0#8, 0#8, 0#32⟩

/-- The fields of a record that carries only a count (30 R61). -/
def countFields (kind : BitVec 4) (cnt : BitVec 32) : Fields :=
  ⟨kind, 0#2, 0#5, 0#5, 0#8, 0#8, cnt⟩

/-- The offset of an aliased read: `base` with the ignored bit 1 as given (30 R64). -/
def aliasOffset (base : BitVec 5) (aliased : Bool) : BitVec 5 :=
  if aliased then base ||| 0x02#5 else base

/-- The fields of each operation, from the table of 30 R66. -/
def Instr.fields : Instr → Fields
  | .itWpad d k => writeFields .it 0x00#5 d k
  | .itWpaddr d k => writeFields .it 0x01#5 d k
  | .itWpbd d k => writeFields .it 0x02#5 d k
  | .itWpbddr d k => writeFields .it 0x03#5 d k
  | .itLd1 d k => writeFields .it 0x14#5 d k
  | .itLd8 d k => writeFields .it 0x15#5 d k
  | .itLd64 d k => writeFields .it 0x16#5 d k
  | .itLd1k d k => writeFields .it 0x17#5 d k
  | .itLd1i d k => writeFields .it 0x1C#5 d k
  | .itLd8i d k => writeFields .it 0x1D#5 d k
  | .itLd64i d k => writeFields .it 0x1E#5 d k
  | .itLd1ki d k => writeFields .it 0x1F#5 d k
  | .itWign off d k => writeFields .it off d k
  | .itRpad => readFields .it 0x00#5
  | .itRpaddr => readFields .it 0x01#5
  | .itRpbd => readFields .it 0x02#5
  | .itRpbddr => readFields .it 0x03#5
  | .itRcnt al => readFields .it (aliasOffset 0x04#5 al)
  | .itRflg al => readFields .it (aliasOffset 0x05#5 al)
  | .itRund off => readFields .it off
  | .ttWcr d k => writeFields .tt 0#5 d k
  | .ttWmc d k => writeFields .tt 1#5 d k
  | .ttWmsb2 d k => writeFields .tt 2#5 d k
  | .ttWmsb4 d k => writeFields .tt 4#5 d k
  | .ttWmsb6 d k => writeFields .tt 6#5 d k
  | .ttWlsb0 d k => writeFields .tt 3#5 d k
  | .ttWlsb1 d k => writeFields .tt 5#5 d k
  | .ttWlsb2 d k => writeFields .tt 7#5 d k
  | .ttRund off => readFields .tt (off.setWidth 5)
  | .mtWcnt0 d k => writeFields .mt 0#5 d k
  | .mtWcnt1 d k => writeFields .mt 1#5 d k
  | .mtWcnt2 d k => writeFields .mt 2#5 d k
  | .mtWgate d k => writeFields .mt 3#5 d k
  | .mtRund off => readFields .mt (off.setWidth 5)
  | .sfxWctl d k => writeFields .sfx 0#5 d k
  | .sfxWvol0 d k => writeFields .sfx 1#5 d k
  | .sfxWvol1 d k => writeFields .sfx 2#5 d k
  | .sfxWvol2 d k => writeFields .sfx 3#5 d k
  | .sfxRund off => readFields .sfx (off.setWidth 5)
  | .render n => countFields 2#4 n
  | .itAdv t => countFields 3#4 t
  | .reset => countFields 4#4 0#32

/-- The encoder: the record of an operation. -/
def encode (i : Instr) : Record := pack i.fields

/-- One row of the opcode table (30 R66): a record `w` is of this row when `w &&& mask = pattern`. -/
structure OpcodeRow where
  mnemonic : String
  pattern : Record
  mask : Record
  deriving DecidableEq, Repr

/-- The record is of this row. -/
def OpcodeRow.covers (r : OpcodeRow) (w : Record) : Bool := w &&& r.mask == r.pattern

/-- The mask of a write row without free offset bits (30 R66). -/
def writeMask : Record := 0xFFFF00FF00000000#64

/-- The interval timer's write rows. -/
def itWriteRows : List OpcodeRow :=
  [⟨"IT.WPAD", 0x1000000000000000#64, writeMask⟩, ⟨"IT.WPADDR", 0x1020000000000000#64, writeMask⟩,
   ⟨"IT.WPBD", 0x1040000000000000#64, writeMask⟩, ⟨"IT.WPBDDR", 0x1060000000000000#64, writeMask⟩,
   ⟨"IT.LD1", 0x1280000000000000#64, writeMask⟩, ⟨"IT.LD8", 0x12A0000000000000#64, writeMask⟩,
   ⟨"IT.LD64", 0x12C0000000000000#64, writeMask⟩, ⟨"IT.LD1K", 0x12E0000000000000#64, writeMask⟩,
   ⟨"IT.LD1I", 0x1380000000000000#64, writeMask⟩, ⟨"IT.LD8I", 0x13A0000000000000#64, writeMask⟩,
   ⟨"IT.LD64I", 0x13C0000000000000#64, writeMask⟩, ⟨"IT.LD1KI", 0x13E0000000000000#64, writeMask⟩,
   ⟨"IT.WIGN", 0x1080000000000000#64, 0xFF9F00FF00000000#64⟩,
   ⟨"IT.WIGN", 0x1100000000000000#64, 0xFF1F00FF00000000#64⟩,
   ⟨"IT.WIGN", 0x1200000000000000#64, 0xFF9F00FF00000000#64⟩,
   ⟨"IT.WIGN", 0x1300000000000000#64, 0xFF9F00FF00000000#64⟩]

/-- The interval timer's read rows. -/
def itReadRows : List OpcodeRow :=
  [⟨"IT.RPAD", 0x0000000000000000#64, 0xFFFFFFFFFFFFFFFF#64⟩,
   ⟨"IT.RPADDR", 0x0020000000000000#64, 0xFFFFFFFFFFFFFFFF#64⟩,
   ⟨"IT.RPBD", 0x0040000000000000#64, 0xFFFFFFFFFFFFFFFF#64⟩,
   ⟨"IT.RPBDDR", 0x0060000000000000#64, 0xFFFFFFFFFFFFFFFF#64⟩,
   ⟨"IT.RCNT", 0x0080000000000000#64, 0xFFBFFFFFFFFFFFFF#64⟩,
   ⟨"IT.RFLG", 0x00A0000000000000#64, 0xFFBFFFFFFFFFFFFF#64⟩,
   ⟨"IT.RUND", 0x0100000000000000#64, 0xFF1FFFFFFFFFFFFF#64⟩,
   ⟨"IT.RUND", 0x0200000000000000#64, 0xFF1FFFFFFFFFFFFF#64⟩,
   ⟨"IT.RUND", 0x0300000000000000#64, 0xFF1FFFFFFFFFFFFF#64⟩]

/-- The tone timer's rows. -/
def ttRows : List OpcodeRow :=
  [⟨"TT.WCR", 0x1400000000000000#64, writeMask⟩, ⟨"TT.WMC", 0x1420000000000000#64, writeMask⟩,
   ⟨"TT.WMSB2", 0x1440000000000000#64, writeMask⟩, ⟨"TT.WMSB4", 0x1480000000000000#64, writeMask⟩,
   ⟨"TT.WMSB6", 0x14C0000000000000#64, writeMask⟩, ⟨"TT.WLSB0", 0x1460000000000000#64, writeMask⟩,
   ⟨"TT.WLSB1", 0x14A0000000000000#64, writeMask⟩, ⟨"TT.WLSB2", 0x14E0000000000000#64, writeMask⟩,
   ⟨"TT.RUND", 0x0400000000000000#64, 0xFF1FFFFFFFFFFFFF#64⟩]

/-- The music timer's and the sfx unit's rows. -/
def mtSfxRows : List OpcodeRow :=
  [⟨"MT.WCNT0", 0x1800000000000000#64, writeMask⟩, ⟨"MT.WCNT1", 0x1820000000000000#64, writeMask⟩,
   ⟨"MT.WCNT2", 0x1840000000000000#64, writeMask⟩, ⟨"MT.WGATE", 0x1860000000000000#64, writeMask⟩,
   ⟨"MT.RUND", 0x0800000000000000#64, 0xFF9FFFFFFFFFFFFF#64⟩,
   ⟨"SFX.WCTL", 0x1C00000000000000#64, writeMask⟩, ⟨"SFX.WVOL0", 0x1C20000000000000#64, writeMask⟩,
   ⟨"SFX.WVOL1", 0x1C40000000000000#64, writeMask⟩, ⟨"SFX.WVOL2", 0x1C60000000000000#64, writeMask⟩,
   ⟨"SFX.RUND", 0x0C00000000000000#64, 0xFF9FFFFFFFFFFFFF#64⟩]

/-- The rows of the three operations that are no bus cycle. -/
def otherRows : List OpcodeRow :=
  [⟨"RENDER", 0x2000000000000000#64, 0xFFFFFFFF00000000#64⟩,
   ⟨"IT.ADV", 0x3000000000000000#64, 0xFFFFFFFF00000000#64⟩,
   ⟨"RESET", 0x4000000000000000#64, 0xFFFFFFFFFFFFFFFF#64⟩]

/-- The 47 rows of spec/opcode_table.json. The decoder does not use them: they are the table it is held
against. -/
def opcodeTable : List OpcodeRow := itWriteRows ++ itReadRows ++ ttRows ++ mtSfxRows ++ otherRows

end Sys2Proof
end

