-- ==== Sys2Proof/Config.lean ====
section
/-! DEFINITION. Config.lean: the parameters of 00_scope R5, each a field of one configuration, and the
values the spec leaves open, as constants without a body. -/

namespace Sys2Proof

/-- `STEP_ROUND` (00_scope R5, decision D4; U7): how an inexact step quotient becomes a natural.
`nearest` (ties up, `rdiv`) is the spec's default; `within1` is its "any function within 1 of the exact
quotient", a free value; `down` and `up` are two such functions by name. DESIGN CHOICE, log 13. -/
inductive StepRound where
  | nearest
  | down
  | up
  | within1
  deriving DecidableEq, Repr

/-- `IT_DIV[0..3]` (00_scope R5). -/
structure Dividers where
  d0 : Nat
  d1 : Nat
  d2 : Nat
  d3 : Nat
  deriving DecidableEq, Repr

/-- The implementation parameters of 00_scope R5: fixed at construction, constant between two resets. -/
structure Config where
  /-- `SAMPLE_RATE`; 0 is legal. -/
  sampleRate : Nat
  /-- `MASTER_CLOCK`, in Hz. -/
  masterClock : Nat
  /-- `BASE_TICK`, the period of the timer clock; no rule depends on it (70 R233). -/
  baseTick : Nat
  /-- `IT_DIV[0..3]`. -/
  itDiv : Dividers
  /-- `IT_DOWN_MAX`. -/
  itDownMax : Nat
  /-- `TONE_BIT`. -/
  toneBit : Nat
  /-- `MUSIC_BIT`. -/
  musicBit : Nat
  /-- `STEP_ONE`. -/
  stepOne : Nat
  /-- `NOISE_PRESCALE`. -/
  noisePrescale : Nat
  /-- `RAND_MAX15`, the largest draw. -/
  randMax15 : Nat
  /-- `NOISE_SCALE`. -/
  noiseScale : Nat
  /-- `BASE_VOLUME`. -/
  baseVolume : Nat
  /-- `N_TONE`: the tone channels are those with an index below it. -/
  nTone : Nat
  /-- `N_MUSIC`: the music channels are those with an index below it. -/
  nMusic : Nat
  /-- `STEP_ROUND`. -/
  stepRound : StepRound
  /-- `NOISE_CH0_DIV`. -/
  noiseCh0Div : Nat
  /-- `IT_LOAD_DISABLE_CLEARS_FLAG`. -/
  itLoadDisableClearsFlag : Bool
  /-- `IT_FLAG_BIT`: the place of the flag in the byte read. -/
  itFlagBit : Nat
  /-- `MT_GATE_FIELD`: the low bit of the 3-bit field. -/
  mtGateLsb : Nat
  /-- `VOL_FIELD`: the low bit of the 3-bit field. -/
  volLsb : Nat
  /-- `RESET_SFX_VOL`. -/
  resetSfxVol : BitVec 3
  deriving DecidableEq, Repr

/-- The values of 00_scope R5's table: the source's where it gives one, the spec's defaults elsewhere.
`sampleRate` and `masterClock` are those of the source's scenario and not constants of the block;
`baseTick` is symbolic in the source. DESIGN CHOICE, log 4. -/
def Config.standard : Config where
  sampleRate := 44100
  masterClock := 1789773
  baseTick := 1
  itDiv := ⟨1, 8, 64, 1024⟩
  itDownMax := 255
  toneBit := 24
  musicBit := 23
  stepOne := 2 ^ 24
  noisePrescale := 4
  randMax15 := 32767
  noiseScale := 32768
  baseVolume := 5461
  nTone := 3
  nMusic := 3
  stepRound := .nearest
  noiseCh0Div := 2
  itLoadDisableClearsFlag := true
  itFlagBit := 7
  mtGateLsb := 1
  volLsb := 0
  resetSfxVol := 7#3

/-- The constants that decision D3 takes as stated and the channel counts have the values of 00_scope R5;
`SAMPLE_RATE`, `MASTER_CLOCK`, `BASE_TICK` remain free, and the parameters of the spec's decisions (log 14). -/
abbrev Config.Structural (c : Config) : Prop :=
  c.itDiv = ⟨1, 8, 64, 1024⟩ ∧ c.itDownMax = 255 ∧ c.toneBit = 24 ∧ c.musicBit = 23 ∧
  c.stepOne = 2 ^ 24 ∧ c.noisePrescale = 4 ∧ c.noiseScale = 32768 ∧ c.baseVolume = 5461 ∧
  c.randMax15 = 32767 ∧ c.nTone = 3 ∧ c.nMusic = 3

/-- The two data ports of the interval timer (10_state R17). -/
inductive Port where
  | a
  | b
  deriving DecidableEq, Repr

/-- Which of the naturals within 1 of the quotient `a / b` the rounding `within1` takes (decision D4): a free
value, reduced to the range by its user. Log 13. -/
opaque Config.stepChoice : Nat → Nat → Nat

/-- The random source (41 R94): the `j`-th draw taken for a tone channel. A free value, reduced to
`0..RAND_MAX15` by its user: no law relates one draw to another. Log 6. -/
opaque Config.draw : Chan → Nat → Nat

/-- `UNDEF_READ` (46 R189, U8): the byte of an undecoded read of a unit at an offset. A free value, fresh per
read. Log 7. -/
opaque Config.undefRead : BusUnit → BitVec 5 → Nat → Byte

/-- `PortIn(A)`, `PortIn(B)` (42 R112, U9): the byte on a port's pins. A free value, fresh per read. Log 7. -/
opaque Config.portIn : Port → Nat → Byte

/-- `IT_IDLE_COUNT` (42 R107, U10): the counter read in `Idle`. A free value, fresh per read. Log 7. -/
opaque Config.idleCount : Nat → Byte

end Sys2Proof
end

