-- ==== Sys2Proof/Machine/State.lean ====
section
/-! DEFINITION. Machine/State.lean: all state of the block (10_state), its outputs, its configuration
and the environment's pending operations; the reasons a step can stop; the state after reset. -/

namespace Sys2Proof.Machine

/-- `it_state` (10_state R14); the spec's code 3 is never held and has no constructor (U16). -/
inductive ItState where
  | idle
  | countingUp
  | countingDown
  deriving DecidableEq, Repr

/-- The interval timer (10_state R13, R17). -/
structure IntervalTimer where
  itState : ItState
  itDivsel : BitVec 2
  itLoad : Byte
  itElapsed : BitVec 18
  irqEnabled : Bool
  irqFlag : Bool
  irqLine : Bool
  paOut : Byte
  paDdr : Byte
  pbOut : Byte
  pbDdr : Byte
  deriving DecidableEq, Repr

/-- The tone timer (10_state R19, R20, R21, R26). -/
structure ToneTimer where
  ttCr : Trio Byte
  ttMsb : Byte
  ttCount : Trio Count
  ttStep : Trio Phase
  ttPhase : Trio Phase
  deriving DecidableEq, Repr

/-- The music timer (10_state R23, R26). -/
structure MusicTimer where
  mtToggle : Trio Bool
  mtLow : Trio Byte
  mtCount : Trio Count
  mtStep : Trio Phase
  mtEnabled : Trio Bool
  mtPhase : Trio Phase
  deriving DecidableEq, Repr

/-- The sfx registers (10_state R24, R25). -/
structure Sfx where
  sfxControl : Byte
  sfxVol : Trio (BitVec 3)
  deriving DecidableEq, Repr

/-- One Channel record, as the source lists its fields (10_state R12). It is a view: the fields are
computed from the registers (10_state R22, R25). -/
structure Channel where
  enabled : Bool
  noisy : Bool
  volume : Sample
  step : Phase
  phase : Phase
  deriving DecidableEq, Repr

/-- The whole state. -/
structure State where
  /-- The parameters the block runs with (00_scope R5). -/
  cfg : Config
  it : IntervalTimer
  tt : ToneTimer
  mt : MusicTimer
  sfx : Sfx
  /-- The rendering cursor (10_state R27). -/
  cursor : Nat
  /-- The output sample stream, oldest first (10_state R27, 45 R166). Log 9. -/
  samples : List Sample
  /-- The byte the last bus read returned (46 R185); `none` before the first. Log 10. -/
  readData : Option Byte
  /-- The calls of `on_interrupt_line_changed` made so far, oldest first (60 R202, R203). Log 11. -/
  irqCalls : List Bool
  /-- The operations issued and not yet performed, next first (00_scope R8). Log 1. -/
  trace : List Record
  /-- The parameters the environment supplies with the next `RESET` (70 R220, R222). Log 5. -/
  cfgIn : Config
  /-- How many samples of each tone channel have taken their two draws (41 R94). Log 6. -/
  draws : Trio Nat
  /-- How many unspecified bytes have been read (46 R189, 42 R107, R112). Log 7. -/
  openReads : Nat
  deriving DecidableEq, Repr

/-- Faults: none. The block has "no recoverable or fatal error kinds" (60 R200). -/
inductive Fault : Type
  deriving DecidableEq, Repr

/-- Why a step answers with no state. -/
inductive Refusal where
  /-- Raised by `exec` in an arm that has no meaning yet. Safe: the machine stops. No arm raises it now. -/
  | notModelled (mnemonic : String)
  /-- Raised by `step` on a reserved record (30 R68; U13: "a decoder rejects the record"). Safe: nothing
  on the hardware corresponds to the record. -/
  | reservedRecord (why : Reserved)
  deriving DecidableEq, Repr

/-- The timer after reset (10_state R30). -/
def IntervalTimer.initial : IntervalTimer where
  itState := .idle
  itDivsel := 0#2
  itLoad := 0#8
  itElapsed := 0#18
  irqEnabled := false
  irqFlag := false
  irqLine := false
  paOut := 0#8
  paDdr := 0#8
  pbOut := 0#8
  pbDdr := 0#8

/-- The tone timer after reset (10_state R30). -/
def ToneTimer.initial : ToneTimer where
  ttCr := .fill 0#8
  ttMsb := 0#8
  ttCount := .fill 0#16
  ttStep := .fill 0#32
  ttPhase := .fill 0#32

/-- The music timer after reset (10_state R30). -/
def MusicTimer.initial : MusicTimer where
  mtToggle := .fill false
  mtLow := .fill 0#8
  mtCount := .fill 0#16
  mtStep := .fill 0#32
  mtEnabled := .fill false
  mtPhase := .fill 0#32

/-- The sfx registers after reset (10_state R30), with `RESET_SFX_VOL` of the configuration. -/
def Sfx.initial (c : Config) : Sfx where
  sfxControl := 0#8
  sfxVol := .fill c.resetSfxVol

/-- The block constructed with a configuration (70 R220: "the parameters … are supplied with it"), before
any operation has been issued. Log 12. -/
def State.initial (c : Config) : State where
  cfg := c
  it := .initial
  tt := .initial
  mt := .initial
  sfx := .initial c
  cursor := 0
  samples := []
  readData := none
  irqCalls := []
  trace := []
  cfgIn := c
  draws := .fill 0
  openReads := 0

/-- The machine right after reset (10_state R30), with the values of 00_scope R5 (log 4). -/
def State.reset : State := State.initial Config.standard

end Sys2Proof.Machine
end

