-- ==== Sys2Proof/Machine/Flags.lean ====
section
/-! DEFINITION. Machine/Flags.lean: every way the two interrupt bits `irq_flag` and `irq_line` change
(60 R202), and the calls the change of the line makes (60 R203). -/

namespace Sys2Proof.Machine

/-- First expiry: the flag is set, the line rises only if enabled (42 R105). -/
def latchExpiry (x : IntervalTimer) : IntervalTimer :=
  { x with irqFlag := true, irqLine := x.irqEnabled || x.irqLine }

/-- A counter read drops the line and leaves the flag (42 R108). -/
def dropLine (x : IntervalTimer) : IntervalTimer :=
  { x with irqLine := false }

/-- A flag read clears flag and line (42 R109). -/
def acknowledge (x : IntervalTimer) : IntervalTimer :=
  { x with irqFlag := false, irqLine := false }

/-- The flag after a load (42 R102): kept by the `I` variants; cleared by the others, unless
`IT_LOAD_DISABLE_CLEARS_FLAG` is false (D19). -/
def flagAfterLoad (c : Config) (enable flag : Bool) : Bool :=
  if enable then flag else if c.itLoadDisableClearsFlag then false else flag

/-- A load writes the enable, drops the line and treats the flag as `flagAfterLoad` says (42 R102). -/
def loadFlags (c : Config) (enable : Bool) (x : IntervalTimer) : IntervalTimer :=
  { x with irqEnabled := enable, irqLine := false, irqFlag := flagAfterLoad c enable x.irqFlag }

/-- The calls of `on_interrupt_line_changed` after an operation: one more exactly when the level at the
end differs from the level at the start (60 R203, R205; log 11). -/
def callsAfter (calls : List Bool) (before after : Bool) : List Bool :=
  if after = before then calls else calls ++ [after]

end Sys2Proof.Machine
end

