-- ==== Sys2Proof/Machine/Operands.lean ====
section
/-! DEFINITION. Machine/Operands.lean: how the bits of a data byte, of an offset and of a control
register become operands (30 R63, R64; 10_state R19, R24, R25), and the codes of `it_state` (10_state R14). -/

namespace Sys2Proof.Machine

/-- The code of a timer state (10_state R14). -/
def itStateCode : ItState → BitVec 2
  | .idle => 0#2
  | .countingUp => 1#2
  | .countingDown => 2#2

/-- `Div(sel)` (00_scope section 5): `IT_DIV[sel]`. -/
def divider (c : Config) (sel : BitVec 2) : Nat :=
  match sel.toNat with
  | 0 => c.itDiv.d0
  | 1 => c.itDiv.d1
  | 2 => c.itDiv.d2
  | _ => c.itDiv.d3

/-- A load port's divider index, `off[1:0]` (30 R64). -/
def loadDivsel (off : BitVec 5) : BitVec 2 := off.extractLsb' 0 2

/-- A load port's interrupt enable, `off[3]` (30 R64). -/
def loadIrqEnable (off : BitVec 5) : Bool := off.getLsbD 3

/-- `hi ++ lo` = `hi * 256 + lo` (30 R63; 20 R43; 40 R89 (e)). -/
def countOf (hi lo : Byte) : Count := hi ++ lo

/-- `EN`, bit 7 of a tone control register (10_state R19). -/
def crEnable (cr : Byte) : Bool := cr.getLsbD 7

/-- `TONE`, bit 1 of a tone control register: set means pure (10_state R19). -/
def crTone (cr : Byte) : Bool := cr.getLsbD 1

/-- `SEL`, bit 0 of `tt_cr[1]` (10_state R19; PRESUMED by the spec, G1; log 18). -/
def crSelect (cr : Byte) : Bool := cr.getLsbD 0

/-- The register `TT.WCR` writes (43 R131; PRESUMED by the spec, G1; log 18). -/
def controlTarget (cr1 : Byte) : Chan := if crSelect cr1 then .ch0 else .ch2

/-- `NOISE_SRC`, bit 0 of `sfx_control` (10_state R24). -/
def noiseSource (ctl : Byte) : Bool := ctl.getLsbD 0

/-- `CH0_MUTE`, bit 1 of `sfx_control` (10_state R24). -/
def channel0Mute (ctl : Byte) : Bool := ctl.getLsbD 1

/-- The channel a gate byte names, `data[7:6]`; index 3 names none (44 R153; 30 R69). -/
def gateChannel (data : Byte) : Option Chan :=
  match (data.extractLsb' 6 2).toNat with
  | 0 => some .ch0
  | 1 => some .ch1
  | 2 => some .ch2
  | _ => none

/-- The gate field, `MT_GATE_FIELD` of the byte: bits 3:1 by default (44 R153; PRESUMED by the spec, G2;
log 18). -/
def gateField (c : Config) (data : Byte) : BitVec 3 := data.extractLsb' c.mtGateLsb 3

/-- The volume field, `VOL_FIELD` of the byte: bits 2:0 by default (45 R177). -/
def volumeField (c : Config) (data : Byte) : BitVec 3 := data.extractLsb' c.volLsb 3

/-- `Vol(f) = floor(f * BASE_VOLUME / 7)` (10_state R25), kept in 16 bits (45 R175). -/
def vol (c : Config) (f : BitVec 3) : Sample := BitVec.ofNat 16 (f.toNat * c.baseVolume / 7)

/-- The byte of a flag read: the flag in bit `IT_FLAG_BIT`, the others 0 (42 R109). -/
def flagByte (c : Config) (flag : Bool) : Byte :=
  BitVec.ofNat 8 (if flag then 2 ^ c.itFlagBit else 0)

end Sys2Proof.Machine
end

