-- ==== Sys2Proof/Machine/PhaseAccumulator.lean ====
section
/-! DEFINITION. Machine/PhaseAccumulator.lean: the oscillator primitive `Advance` and the conversion
`FreqStep` (40 R80 to R89). -/

namespace Sys2Proof.Machine

/-- `Advance(phase, step, hb)` (40 R81): add modulo 2^32, then test bit `hb` of the new phase. -/
def advance (phase step : Phase) (hb : Nat) : Phase × Bool :=
  let phase' := phase + step
  (phase', phase'.getLsbD hb)

/-- `rdiv(a, b)` (00_scope section 5): `a / b` to the nearest natural, a tie up. -/
def rdiv (a b : Nat) : Nat := (2 * a + b) / (2 * b)

/-- Some natural within 1 of the quotient `a / b` (decision D4): from `ceil(a / b) - 1`, not below 0, to
`floor(a / b) + 1`, the choice being free. -/
def within1 (a b : Nat) : Nat :=
  let lo := (a + b - 1) / b - 1
  lo + Config.stepChoice a b % (a / b + 2 - lo)

/-- The step quotient under `STEP_ROUND` (40 R83, D4). -/
def stepQuotient (r : StepRound) (a b : Nat) : Nat :=
  match r with
  | .nearest => rdiv a b
  | .down => a / b
  | .up => (a + b - 1) / b
  | .within1 => within1 a b

/-- `FreqStep(count)` (40 R83, R84, R85). -/
def freqStep (c : Config) (count : Count) : Phase :=
  if c.sampleRate = 0 then 0#32
  else if count = 0#16 then 0#32
  else BitVec.ofNat 32 (stepQuotient c.stepRound (c.stepOne * c.masterClock) (count.toNat * c.sampleRate))

end Sys2Proof.Machine
end

