-- ==== Sys2Proof/Machine/NoiseModulator.lean ====
section
/-! DEFINITION. Machine/NoiseModulator.lean: the noise clock, the average step and the per-sample
increment of a noisy channel (41 R90 to R97). There is no shift register (41 R97). -/

namespace Sys2Proof.Machine

/-- The draws a rendering takes: the `j`-th draw of a tone channel, before its reduction (41 R94). Every
meaning is given `Config.draw`; a statement about rendering may quantify over it. -/
abbrev DrawSource := Chan → Nat → Nat

/-- `draw({0..RAND_MAX15})` (41 R93, R94): the `j`-th draw of a channel, reduced to its range. -/
def drawn (c : Config) (draw : DrawSource) (ch : Chan) (j : Nat) : Nat := draw ch j % (c.randMax15 + 1)

/-- `NoiseFreq()` (41 R90), as numerator and denominator. -/
def noiseFreq (c : Config) (sfxControl : Byte) (count0 : Count) : Nat × Nat :=
  if noiseSource sfxControl then
    if count0 = 0#16 then (0, 1) else (c.masterClock, c.noiseCh0Div * count0.toNat)
  else (c.masterClock, 1)

/-- `AvgStep(ch)` (41 R92) for the noise frequency `nf` and the channel's count. -/
def avgStep (c : Config) (nf : Nat × Nat) (count : Count) : Phase :=
  if c.sampleRate = 0 ∨ count = 0#16 ∨ nf.1 = 0 then 0#32
  else
    BitVec.ofNat 32
      (rdiv (c.stepOne * nf.1) (c.noisePrescale * count.toNat * c.sampleRate * c.noiseScale * nf.2))

/-- `NoiseInc(ch) = AvgStep(ch) *32 (r1 + r2)` (41 R93), for two draws. -/
def noiseInc (a : Phase) (r1 r2 : Nat) : Phase := a * BitVec.ofNat 32 (r1 + r2)

/-- The increment of a channel's `j`-th noisy sample: two fresh draws (41 R93). -/
def noiseIncAt (c : Config) (draw : DrawSource) (a : Phase) (ch : Chan) (j : Nat) : Phase :=
  noiseInc a (drawn c draw ch (2 * j)) (drawn c draw ch (2 * j + 1))

end Sys2Proof.Machine
end

