-- ==== Sys2Proof/Machine/Ops.lean ====
section
/-! DEFINITION. Machine/Ops.lean: the named operations the meanings are made of. The timer's internal
events (42 R104 to R107), the Channel views (10_state R12), rendering (45 R165), the two bus wrappers
(46 R185, R186) and reset (70 R220). The block takes no exception (60 R200, R205); the shared operation in
that place is the first expiry, which raises the one interrupt output. -/

namespace Sys2Proof.Machine

/-- What an operation answers. -/
abbrev Result := Host.Outcome State Fault Refusal

/-! ### The interval timer -/

/-- `IT.EXP1`, the first expiry (42 R105). -/
def itExp1 (x : IntervalTimer) : IntervalTimer :=
  { latchExpiry x with itState := .countingDown, itElapsed := 0#18 }

/-- `IT.EXP2`, the second expiry (42 R106). -/
def itExp2 (x : IntervalTimer) : IntervalTimer :=
  { x with itState := .idle, itElapsed := 0#18 }

/-- The length of the first leg in base ticks, `Div * it_load` (42 R104). -/
def upLeg (c : Config) (x : IntervalTimer) : Nat := divider c x.itDivsel * x.itLoad.toNat

/-- The length of the second leg in base ticks, `Div * IT_DOWN_MAX` (42 R104). -/
def downLeg (c : Config) (x : IntervalTimer) : Nat := divider c x.itDivsel * c.itDownMax

/-- One more base tick has elapsed. -/
def countTick (x : IntervalTimer) : IntervalTimer :=
  { x with itElapsed := x.itElapsed + 1#18 }

/-- `IT.TICK` (42 R104): both tests look at the state before this tick's expiry. -/
def itTick (c : Config) (x : IntervalTimer) : IntervalTimer :=
  match x.itState with
  | .idle => x
  | .countingUp =>
    if (countTick x).itElapsed.toNat = upLeg c x then itExp1 (countTick x) else countTick x
  | .countingDown =>
    if (countTick x).itElapsed.toNat = downLeg c x then itExp2 (countTick x) else countTick x

/-- `t` times `IT.TICK`, in sequence (42 R110). -/
def itTicks (c : Config) : Nat → IntervalTimer → IntervalTimer
  | 0, x => x
  | t + 1, x => itTicks c t (itTick c x)

/-- A load port before the zero test (42 R102): the first leg starts over. -/
def startLeg (c : Config) (off : BitVec 5) (data : Byte) (x : IntervalTimer) : IntervalTimer :=
  { loadFlags c (loadIrqEnable off) x with
    itDivsel := loadDivsel off
    itLoad := data
    itElapsed := 0#18
    itState := .countingUp }

/-- A write to the load port at `off` (42 R102), with the expiry of a load of zero inside it (42 R103). -/
def itLoadPort (c : Config) (off : BitVec 5) (data : Byte) (x : IntervalTimer) : IntervalTimer :=
  if data = 0#8 then itExp1 (startLeg c off data x) else startLeg c off data x

/-- `ItCounter()` (42 R107): elapsed or remaining divided ticks, truncated; `idle` is the open
`IT_IDLE_COUNT`. -/
def itCounter (c : Config) (idle : Byte) (x : IntervalTimer) : BitVec 16 :=
  match x.itState with
  | .countingUp => BitVec.ofNat 16 (x.itElapsed.toNat / divider c x.itDivsel)
  | .countingDown => BitVec.ofNat 16 ((downLeg c x - x.itElapsed.toNat) / divider c x.itDivsel)
  | .idle => idle.setWidth 16

/-- The timer takes a new state; the output callback is called if the line's level changed (60 R203). -/
def setTimer (x : IntervalTimer) (s : State) : State :=
  { s with it := x, irqCalls := callsAfter s.irqCalls s.it.irqLine x.irqLine }

/-! ### Channel views -/

/-- `tt_enabled[ch]` (10_state R22). -/
def toneEnabled (s : State) (ch : Chan) : Bool :=
  crEnable (s.tt.ttCr.get ch) && s.tt.ttCount.get ch != 0#16

/-- `tt_noisy[ch]` (10_state R22). -/
def toneNoisy (s : State) (ch : Chan) : Bool := !crTone (s.tt.ttCr.get ch)

/-- `tt_volume[ch] = Vol(sfx_vol[ch])` (10_state R25). -/
def toneVolume (s : State) (ch : Chan) : Sample := vol s.cfg (s.sfx.sfxVol.get ch)

/-- `mt_volume[ch] = BASE_VOLUME` (10_state R25). -/
def musicVolume (s : State) : Sample := BitVec.ofNat 16 s.cfg.baseVolume

/-- The Channel record of a tone channel (10_state R12). -/
def toneChannel (s : State) (ch : Chan) : Channel :=
  ⟨toneEnabled s ch, toneNoisy s ch, toneVolume s ch, s.tt.ttStep.get ch, s.tt.ttPhase.get ch⟩

/-- The Channel record of a music channel: never noisy (10_state R12). -/
def musicChannel (s : State) (ch : Chan) : Channel :=
  ⟨s.mt.mtEnabled.get ch, false, musicVolume s, s.mt.mtStep.get ch, s.mt.mtPhase.get ch⟩

/-- `tt_phase[ch] <- p`. -/
def setTonePhase (ch : Chan) (p : Phase) (s : State) : State :=
  { s with tt := { s.tt with ttPhase := s.tt.ttPhase.set ch p } }

/-- `mt_phase[ch] <- p`. -/
def setMusicPhase (ch : Chan) (p : Phase) (s : State) : State :=
  { s with mt := { s.mt with mtPhase := s.mt.mtPhase.set ch p } }

/-! ### Rendering -/

/-- The inner loop of 45 R165 for one channel: sample by sample, advance by the increment of that sample
and, when the tested bit is high, add the volume (16-bit wrap, 45 R175). `j` numbers the increments. -/
def walk (hb : Nat) (volume : Sample) (inc : Nat → Phase) : Nat → List Sample → Phase → Phase × List Sample
  | _, [], p => (p, [])
  | j, b :: bs, p =>
    let a := advance p (inc j) hb
    let r := walk hb volume inc (j + 1) bs a.1
    (r.1, (if a.2 then b + volume else b) :: r.2)

/-- A muted channel 0 (45 R169): one addition of `n *32 tt_step[0]`, no sample. -/
def advanceMuted (n : Nat) (s : State) : State :=
  setTonePhase .ch0 (s.tt.ttPhase.ch0 + BitVec.ofNat 32 n * s.tt.ttStep.ch0) s

/-- A pure tone channel (45 R168). -/
def walkPure (ch : Chan) (x : State × List Sample) : State × List Sample :=
  let s := x.1
  let r := walk s.cfg.toneBit (toneVolume s ch) (fun _ => s.tt.ttStep.get ch) 0 x.2 (s.tt.ttPhase.get ch)
  (setTonePhase ch r.1 s, r.2)

/-- A noisy tone channel (45 R170): `AvgStep` once for the call, two fresh draws for each sample. -/
def walkNoisy (draw : DrawSource) (nf : Nat × Nat) (ch : Chan) (x : State × List Sample) :
    State × List Sample :=
  let s := x.1
  let a := avgStep s.cfg nf (s.tt.ttCount.get ch)
  let r := walk s.cfg.toneBit (toneVolume s ch) (noiseIncAt s.cfg draw a ch) (s.draws.get ch) x.2 (s.tt.ttPhase.get ch)
  ({ setTonePhase ch r.1 s with draws := s.draws.set ch (s.draws.get ch + x.2.length) }, r.2)

/-- Tone channel `ch` in step 3 of 45 R165; a disabled channel is not walked (45 R172). -/
def renderTone (draw : DrawSource) (nf : Nat × Nat) (ch : Chan) (x : State × List Sample) :
    State × List Sample :=
  if toneEnabled x.1 ch then
    if ch = .ch0 ∧ channel0Mute x.1.sfx.sfxControl = true then (advanceMuted x.2.length x.1, x.2)
    else if toneNoisy x.1 ch then walkNoisy draw nf ch x
    else walkPure ch x
  else x

/-- Music channel `ch` in step 4 of 45 R165 (45 R171, R172). -/
def renderMusic (ch : Chan) (x : State × List Sample) : State × List Sample :=
  let s := x.1
  if s.mt.mtEnabled.get ch then
    let r := walk s.cfg.musicBit (musicVolume s) (fun _ => s.mt.mtStep.get ch) 0 x.2 (s.mt.mtPhase.get ch)
    (setMusicPhase ch r.1 s, r.2)
  else x

/-- Append the rendered samples to the stream and move the cursor (45 R166). -/
def emitAll (x : State × List Sample) : State :=
  { x.1 with samples := x.1.samples ++ x.2, cursor := x.1.cursor + x.2.length }

/-- The channels `0, 1, 2` of a trio that has `count` of them, `N_TONE` or `N_MUSIC` (00_scope R5). Log 14. -/
def channelsBelow (count : Nat) : List Chan := [.ch0, .ch1, .ch2].take count

/-- Steps 1 to 4 of 45 R165: the zeroed buffer, the noise frequency of this call (41 R91), the tone channels in
turn, the music channels in turn. -/
def mix (draw : DrawSource) (n : Nat) (s : State) : State × List Sample :=
  let nf := noiseFreq s.cfg s.sfx.sfxControl s.tt.ttCount.ch0
  let x := (channelsBelow s.cfg.nTone).foldl (fun x ch => renderTone draw nf ch x) (s, List.replicate n 0#16)
  (channelsBelow s.cfg.nMusic).foldl (fun x ch => renderMusic ch x) x

/-- `RENDER n` (45 R165). -/
def render (draw : DrawSource) (n : Nat) (s : State) : State := emitAll (mix draw n s)

/-! ### The bus -/

/-- `BusWrite` (46 R186): flush with the old state, then the mutation. -/
def busWrite (k : BitVec 32) (mutate : State → State) (s : State) : Result :=
  .next (mutate (render Config.draw k.toNat s))

/-- `BusRead` (46 R185): no flush; the byte goes to the host. -/
def busRead (b : Byte) (s : State) : State := { s with readData := some b }

/-- A read that returns an unspecified byte uses up that byte. -/
def busReadOpen (b : Byte) (s : State) : State := { busRead b s with openReads := s.openReads + 1 }

/-! ### Reset -/

/-- `RESET` (70 R220): every field of the block at its reset value, with the parameters supplied with it.
The environment's pending operations and the count of its answers go on; the line falls with a call if it
was high (log 8, log 11). No flush (D34). -/
def resetBlock (s : State) : State :=
  { State.initial s.cfgIn with
    irqCalls := callsAfter s.irqCalls s.it.irqLine false
    trace := s.trace
    draws := s.draws
    openReads := s.openReads }

/-- The re-initialisation of 40 R88, which is no operation: the sample rate is replaced, every step is
computed again from its count, all else is kept. -/
def reinitialise (sampleRate : Nat) (s : State) : State :=
  let c := { s.cfg with sampleRate := sampleRate }
  let steps (x : Trio Count) : Trio Phase := ⟨freqStep c x.ch0, freqStep c x.ch1, freqStep c x.ch2⟩
  { s with
    cfg := c
    tt := { s.tt with ttStep := steps s.tt.ttCount }
    mt := { s.mt with mtStep := steps s.mt.mtCount } }

end Sys2Proof.Machine
end

