-- ==== Sys2Proof/Machine/BlockOps.lean ====
section
/-! DEFINITION. Machine/BlockOps.lean: the meanings of the three operations that are no bus cycle:
`RENDER` (45 R165), `IT.ADV` (42 R110) and `RESET` (70 R220). -/

namespace Sys2Proof.Machine

/-- `RENDER n` (45 R165, R174). -/
def execRender (n : BitVec 32) (s : State) : Result := .next (render Config.draw n.toNat s)

/-- `IT.ADV t` (42 R110): `t` times `IT.TICK`. -/
def execItAdv (t : BitVec 32) (s : State) : Result := .next (setTimer (itTicks s.cfg t.toNat s.it) s)

/-- `RESET` (70 R220). -/
def execReset (s : State) : Result := .next (resetBlock s)

end Sys2Proof.Machine
end

