-- ==== Sys2Proof/Machine/IntervalTimer.lean ====
section
/-! DEFINITION. Machine/IntervalTimer.lean: the meanings of the interval timer's bus operations
(42_interval_timer_with_prescaler; 46 R188, R189). -/

namespace Sys2Proof.Machine

/-- `IT.WPAD` (42 R111). -/
def execItWpad (data : Byte) (k : BitVec 32) (s : State) : Result :=
  busWrite k (fun u => setTimer { u.it with paOut := data } u) s

/-- `IT.WPADDR` (42 R111). -/
def execItWpaddr (data : Byte) (k : BitVec 32) (s : State) : Result :=
  busWrite k (fun u => setTimer { u.it with paDdr := data } u) s

/-- `IT.WPBD` (42 R111). -/
def execItWpbd (data : Byte) (k : BitVec 32) (s : State) : Result :=
  busWrite k (fun u => setTimer { u.it with pbOut := data } u) s

/-- `IT.WPBDDR` (42 R111). -/
def execItWpbddr (data : Byte) (k : BitVec 32) (s : State) : Result :=
  busWrite k (fun u => setTimer { u.it with pbDdr := data } u) s

/-- The write part of a load port (42 R102): the flush has been done. -/
def loadPort (off : BitVec 5) (data : Byte) (s : State) : State :=
  setTimer (itLoadPort s.cfg off data s.it) s

/-- `IT.LD1` (42 R101, R102, R103): the load port at 0x14. -/
def execItLd1 (data : Byte) (k : BitVec 32) (s : State) : Result :=
  busWrite k (loadPort 0x14#5 data) s

/-- `IT.LD8` (42 R101, R102, R103): the load port at 0x15. -/
def execItLd8 (data : Byte) (k : BitVec 32) (s : State) : Result :=
  busWrite k (loadPort 0x15#5 data) s

/-- `IT.LD64` (42 R101, R102, R103): the load port at 0x16. -/
def execItLd64 (data : Byte) (k : BitVec 32) (s : State) : Result :=
  busWrite k (loadPort 0x16#5 data) s

/-- `IT.LD1K` (42 R101, R102, R103): the load port at 0x17. -/
def execItLd1k (data : Byte) (k : BitVec 32) (s : State) : Result :=
  busWrite k (loadPort 0x17#5 data) s

/-- `IT.LD1I` (42 R101, R102, R103): the load port at 0x1C. -/
def execItLd1i (data : Byte) (k : BitVec 32) (s : State) : Result :=
  busWrite k (loadPort 0x1C#5 data) s

/-- `IT.LD8I` (42 R101, R102, R103): the load port at 0x1D. -/
def execItLd8i (data : Byte) (k : BitVec 32) (s : State) : Result :=
  busWrite k (loadPort 0x1D#5 data) s

/-- `IT.LD64I` (42 R101, R102, R103): the load port at 0x1E. -/
def execItLd64i (data : Byte) (k : BitVec 32) (s : State) : Result :=
  busWrite k (loadPort 0x1E#5 data) s

/-- `IT.LD1KI` (42 R101, R102, R103): the load port at 0x1F. -/
def execItLd1ki (data : Byte) (k : BitVec 32) (s : State) : Result :=
  busWrite k (loadPort 0x1F#5 data) s

/-- `IT.WIGN` (46 R188): the flush, and nothing else; offset and data are discarded. -/
def execItWign (_off : BitVec 5) (_data : Byte) (k : BitVec 32) (s : State) : Result :=
  busWrite k (fun u => u) s

/-- `IT.RPAD` (42 R112): the byte on port A's pins, a free value. -/
def execItRpad (s : State) : Result := .next (busReadOpen (Config.portIn .a s.openReads) s)

/-- `IT.RPADDR` (42 R112). -/
def execItRpaddr (s : State) : Result := .next (busRead s.it.paDdr s)

/-- `IT.RPBD` (42 R112): the byte on port B's pins, a free value. -/
def execItRpbd (s : State) : Result := .next (busReadOpen (Config.portIn .b s.openReads) s)

/-- `IT.RPBDDR` (42 R112). -/
def execItRpbddr (s : State) : Result := .next (busRead s.it.pbDdr s)

/-- The byte of a counter read (42 R108): `ItCounter()[7:0]`; in `Idle` a free value is used up. -/
def readCounter (s : State) : State :=
  let idle := Config.idleCount s.openReads
  let b := (itCounter s.cfg idle s.it).setWidth 8
  if s.it.itState = .idle then busReadOpen b s else busRead b s

/-- `IT.RCNT` (42 R107, R108): offsets 0x04 and 0x06 are one operation. -/
def execItRcnt (_aliased : Bool) (s : State) : Result :=
  .next (setTimer (dropLine s.it) (readCounter s))

/-- `IT.RFLG` (42 R109): the byte carries the flag as it was before the clear. -/
def execItRflg (_aliased : Bool) (s : State) : Result :=
  .next (setTimer (acknowledge s.it) (busRead (flagByte s.cfg s.it.irqFlag) s))

/-- `IT.RUND` (46 R189): an unspecified byte, no state change. -/
def execItRund (off : BitVec 5) (s : State) : Result :=
  .next (busReadOpen (Config.undefRead .it off s.openReads) s)

end Sys2Proof.Machine
end

