-- ==== Sys2Proof/Machine/MusicTimer.lean ====
section
/-! DEFINITION. Machine/MusicTimer.lean: the meanings of the music timer's bus operations
(44_music_timer_trio; 46 R189). -/

namespace Sys2Proof.Machine

/-- The low half of a count write (44 R151): the byte waits in `mt_low[ch]`. -/
def musicLow (ch : Chan) (data : Byte) (s : State) : State :=
  { s with
    mt := { s.mt with
      mtLow := s.mt.mtLow.set ch data
      mtToggle := s.mt.mtToggle.set ch true } }

/-- The high half of a count write (44 R151): the commit. -/
def musicHigh (ch : Chan) (data : Byte) (s : State) : State :=
  let count := countOf data (s.mt.mtLow.get ch)
  { s with
    mt := { s.mt with
      mtCount := s.mt.mtCount.set ch count
      mtStep := s.mt.mtStep.set ch (freqStep s.cfg count)
      mtToggle := s.mt.mtToggle.set ch false } }

/-- A write to a count port (44 R151): low and high in turn. -/
def musicCount (ch : Chan) (data : Byte) (s : State) : State :=
  if s.mt.mtToggle.get ch then musicHigh ch data s else musicLow ch data s

/-- A write to the gate port (44 R153): enabled exactly when the gate field is not zero; index 3 names no
channel. -/
def musicGate (data : Byte) (s : State) : State :=
  match gateChannel data with
  | some ch => { s with mt := { s.mt with mtEnabled := s.mt.mtEnabled.set ch (gateField s.cfg data != 0#3) } }
  | none => s

/-- `MT.WCNT0` (44 R151). -/
def execMtWcnt0 (data : Byte) (k : BitVec 32) (s : State) : Result :=
  busWrite k (musicCount .ch0 data) s

/-- `MT.WCNT1` (44 R151). -/
def execMtWcnt1 (data : Byte) (k : BitVec 32) (s : State) : Result :=
  busWrite k (musicCount .ch1 data) s

/-- `MT.WCNT2` (44 R151). -/
def execMtWcnt2 (data : Byte) (k : BitVec 32) (s : State) : Result :=
  busWrite k (musicCount .ch2 data) s

/-- `MT.WGATE` (44 R153). -/
def execMtWgate (data : Byte) (k : BitVec 32) (s : State) : Result :=
  busWrite k (musicGate data) s

/-- `MT.RUND` (46 R189): an unspecified byte, no state change. -/
def execMtRund (off : BitVec 2) (s : State) : Result :=
  .next (busReadOpen (Config.undefRead .mt (off.setWidth 5) s.openReads) s)

end Sys2Proof.Machine
end

