-- ==== Sys2Proof/Machine/SfxPorts.lean ====
section
/-! DEFINITION. Machine/SfxPorts.lean: the meanings of the sfx unit's bus operations
(45 R176, R177; 46 R189). -/

namespace Sys2Proof.Machine

/-- `sfx_control <- data` (45 R176). -/
def setSfxControl (data : Byte) (s : State) : State :=
  { s with sfx := { s.sfx with sfxControl := data } }

/-- `sfx_vol[ch] <- data[2:0]` (45 R177). -/
def setSfxVolume (ch : Chan) (data : Byte) (s : State) : State :=
  { s with sfx := { s.sfx with sfxVol := s.sfx.sfxVol.set ch (volumeField s.cfg data) } }

/-- `SFX.WCTL` (45 R176). -/
def execSfxWctl (data : Byte) (k : BitVec 32) (s : State) : Result :=
  busWrite k (setSfxControl data) s

/-- `SFX.WVOL0` (45 R177; the ports serve the channels in ascending order, 30 R64). -/
def execSfxWvol0 (data : Byte) (k : BitVec 32) (s : State) : Result :=
  busWrite k (setSfxVolume .ch0 data) s

/-- `SFX.WVOL1` (45 R177; the ports serve the channels in ascending order, 30 R64). -/
def execSfxWvol1 (data : Byte) (k : BitVec 32) (s : State) : Result :=
  busWrite k (setSfxVolume .ch1 data) s

/-- `SFX.WVOL2` (45 R177; the ports serve the channels in ascending order, 30 R64). -/
def execSfxWvol2 (data : Byte) (k : BitVec 32) (s : State) : Result :=
  busWrite k (setSfxVolume .ch2 data) s

/-- `SFX.RUND` (46 R189): an unspecified byte, no state change. -/
def execSfxRund (off : BitVec 2) (s : State) : Result :=
  .next (busReadOpen (Config.undefRead .sfx (off.setWidth 5) s.openReads) s)

end Sys2Proof.Machine
end

