-- ==== Sys2Proof/Machine/ToneTimer.lean ====
section
/-! DEFINITION. Machine/ToneTimer.lean: the meanings of the tone timer's bus operations
(43_tone_counter_trio; 46 R189). -/

namespace Sys2Proof.Machine

/-- `tt_cr[ch] <- data`. -/
def setToneControl (ch : Chan) (data : Byte) (s : State) : State :=
  { s with tt := { s.tt with ttCr := s.tt.ttCr.set ch data } }

/-- `tt_msb <- data` (43 R133): one latch for the three offsets. -/
def latchMsb (data : Byte) (s : State) : State :=
  { s with tt := { s.tt with ttMsb := data } }

/-- Commit of channel `ch` (43 R134): the count from the latch and the byte, the step from the count; the
latch and the phase are kept. -/
def commitTone (ch : Chan) (data : Byte) (s : State) : State :=
  let count := countOf s.tt.ttMsb data
  { s with
    tt := { s.tt with
      ttCount := s.tt.ttCount.set ch count
      ttStep := s.tt.ttStep.set ch (freqStep s.cfg count) } }

/-- `TT.WCR` (43 R131): the target depends on bit 0 of `tt_cr[1]`. -/
def execTtWcr (data : Byte) (k : BitVec 32) (s : State) : Result :=
  busWrite k (fun u => setToneControl (controlTarget u.tt.ttCr.ch1) data u) s

/-- `TT.WMC` (43 R132): channel 1's control register, whose bit 0 is the selector. -/
def execTtWmc (data : Byte) (k : BitVec 32) (s : State) : Result :=
  busWrite k (setToneControl .ch1 data) s

/-- `TT.WMSB2` (43 R133). -/
def execTtWmsb2 (data : Byte) (k : BitVec 32) (s : State) : Result :=
  busWrite k (latchMsb data) s

/-- `TT.WMSB4` (43 R133). -/
def execTtWmsb4 (data : Byte) (k : BitVec 32) (s : State) : Result :=
  busWrite k (latchMsb data) s

/-- `TT.WMSB6` (43 R133). -/
def execTtWmsb6 (data : Byte) (k : BitVec 32) (s : State) : Result :=
  busWrite k (latchMsb data) s

/-- `TT.WLSB0` (43 R134). -/
def execTtWlsb0 (data : Byte) (k : BitVec 32) (s : State) : Result :=
  busWrite k (commitTone .ch0 data) s

/-- `TT.WLSB1` (43 R134). -/
def execTtWlsb1 (data : Byte) (k : BitVec 32) (s : State) : Result :=
  busWrite k (commitTone .ch1 data) s

/-- `TT.WLSB2` (43 R134). -/
def execTtWlsb2 (data : Byte) (k : BitVec 32) (s : State) : Result :=
  busWrite k (commitTone .ch2 data) s

/-- `TT.RUND` (46 R189): an unspecified byte, no state change. -/
def execTtRund (off : BitVec 3) (s : State) : Result :=
  .next (busReadOpen (Config.undefRead .tt (off.setWidth 5) s.openReads) s)

end Sys2Proof.Machine
end

