-- ==== Sys2Proof/Machine/Dispatch.lean ====
section
/-! DEFINITION. Machine/Dispatch.lean: the one match from an operation to its meaning. -/

namespace Sys2Proof.Machine

def exec (i : Instr) (s : State) : Host.Outcome State Fault Refusal :=
  match i with
  | .itWpad data k => Sys2Proof.Machine.execItWpad data k s
  | .itWpaddr data k => Sys2Proof.Machine.execItWpaddr data k s
  | .itWpbd data k => Sys2Proof.Machine.execItWpbd data k s
  | .itWpbddr data k => Sys2Proof.Machine.execItWpbddr data k s
  | .itLd1 data k => Sys2Proof.Machine.execItLd1 data k s
  | .itLd8 data k => Sys2Proof.Machine.execItLd8 data k s
  | .itLd64 data k => Sys2Proof.Machine.execItLd64 data k s
  | .itLd1k data k => Sys2Proof.Machine.execItLd1k data k s
  | .itLd1i data k => Sys2Proof.Machine.execItLd1i data k s
  | .itLd8i data k => Sys2Proof.Machine.execItLd8i data k s
  | .itLd64i data k => Sys2Proof.Machine.execItLd64i data k s
  | .itLd1ki data k => Sys2Proof.Machine.execItLd1ki data k s
  | .itWign off data k => Sys2Proof.Machine.execItWign off data k s
  | .itRpad => Sys2Proof.Machine.execItRpad s
  | .itRpaddr => Sys2Proof.Machine.execItRpaddr s
  | .itRpbd => Sys2Proof.Machine.execItRpbd s
  | .itRpbddr => Sys2Proof.Machine.execItRpbddr s
  | .itRcnt aliased => Sys2Proof.Machine.execItRcnt aliased s
  | .itRflg aliased => Sys2Proof.Machine.execItRflg aliased s
  | .itRund off => Sys2Proof.Machine.execItRund off s
  | .ttWcr data k => Sys2Proof.Machine.execTtWcr data k s
  | .ttWmc data k => Sys2Proof.Machine.execTtWmc data k s
  | .ttWmsb2 data k => Sys2Proof.Machine.execTtWmsb2 data k s
  | .ttWmsb4 data k => Sys2Proof.Machine.execTtWmsb4 data k s
  | .ttWmsb6 data k => Sys2Proof.Machine.execTtWmsb6 data k s
  | .ttWlsb0 data k => Sys2Proof.Machine.execTtWlsb0 data k s
  | .ttWlsb1 data k => Sys2Proof.Machine.execTtWlsb1 data k s
  | .ttWlsb2 data k => Sys2Proof.Machine.execTtWlsb2 data k s
  | .ttRund off => Sys2Proof.Machine.execTtRund off s
  | .mtWcnt0 data k => Sys2Proof.Machine.execMtWcnt0 data k s
  | .mtWcnt1 data k => Sys2Proof.Machine.execMtWcnt1 data k s
  | .mtWcnt2 data k => Sys2Proof.Machine.execMtWcnt2 data k s
  | .mtWgate data k => Sys2Proof.Machine.execMtWgate data k s
  | .mtRund off => Sys2Proof.Machine.execMtRund off s
  | .sfxWctl data k => Sys2Proof.Machine.execSfxWctl data k s
  | .sfxWvol0 data k => Sys2Proof.Machine.execSfxWvol0 data k s
  | .sfxWvol1 data k => Sys2Proof.Machine.execSfxWvol1 data k s
  | .sfxWvol2 data k => Sys2Proof.Machine.execSfxWvol2 data k s
  | .sfxRund off => Sys2Proof.Machine.execSfxRund off s
  | .render n => Sys2Proof.Machine.execRender n s
  | .itAdv t => Sys2Proof.Machine.execItAdv t s
  | .reset => Sys2Proof.Machine.execReset s

end Sys2Proof.Machine
end

