-- ==== Sys2Proof/Machine/Step.lean ====
section
/-! DEFINITION. Machine/Step.lean: one step takes the next operation the environment has issued and
performs it (00_scope R8). -/

namespace Sys2Proof.Machine

/-- With no operation issued the block waits (70 R221; log 2); a reserved record is refused (30 R68). -/
def step (s : State) : Host.Outcome State Fault Refusal :=
  match s.trace with
  | [] => .next s
  | w :: rest =>
    match decode w with
    | .ok i => exec i { s with trace := rest }
    | .error why => .refused (.reservedRecord why)

/-- The record is issued as the next operation (log 1). -/
def State.withFetchWord (s : State) (nbits w : Nat) : State :=
  { s with trace := BitVec.ofNat 64 (w % 2 ^ nbits) :: s.trace }

end Sys2Proof.Machine
end

