-- ==== Sys2Proof/Machine/TraceSyntax.lean ====
section
/-! DEFINITION. Machine/TraceSyntax.lean: one line of a trace as data, its expansion into operations
(30 R73), its text and the reading of that text (30 R72). No rule of behaviour depends on it. -/

namespace Sys2Proof.Machine

/-- A line of a trace: an operation by its mnemonic, a generic `WR` or `RD`, or a pseudo-operation
(30 R72, R73). -/
inductive TraceLine where
  | op (i : Instr)
  | wr (u : BusUnit) (off : Nat) (data : Byte) (k : BitVec 32)
  | rd (u : BusUnit) (off : Nat)
  | itTick
  | flush (k : BitVec 32)
  | ttSetCount (ch : Chan) (v : Count)
  | mtSetCount (ch : Chan) (v : Count)
  | ttSetCr (ch : Chan) (v : Byte)
  deriving DecidableEq, Repr

/-- `TT.WLSB<ch>` with `k = 0`. -/
def toneCommitOp (ch : Chan) (data : Byte) : Instr :=
  match ch with
  | .ch0 => .ttWlsb0 data 0#32
  | .ch1 => .ttWlsb1 data 0#32
  | .ch2 => .ttWlsb2 data 0#32

/-- `MT.WCNT<ch>` with `k = 0`. -/
def musicCountOp (ch : Chan) (data : Byte) : Instr :=
  match ch with
  | .ch0 => .mtWcnt0 data 0#32
  | .ch1 => .mtWcnt1 data 0#32
  | .ch2 => .mtWcnt2 data 0#32

/-- The high byte of a count, `v >> 8`. -/
def highByte (v : Count) : Byte := v.extractLsb' 8 8

/-- The low byte of a count, `v and 0xFF`. -/
def lowByte (v : Count) : Byte := v.extractLsb' 0 8

/-- The operation a generic line's fields name; an offset beyond the unit's width is reserved (30 R68). -/
def genericOp (f : Fields) (off : Nat) : Except Reserved Instr :=
  if off < 32 then decodeFields { f with off := BitVec.ofNat 5 off } else .error .offset

/-- The expansion of a line (30 R73), in the order of its operations. `cr1` is `tt_cr[1]`, which the
`TT.SETCR` lines rewrite. -/
def expandLine (cr1 : Byte) : TraceLine → Except Reserved (List Instr)
  | .op i => .ok [i]
  | .wr u off data k => (genericOp (writeFields u 0#5 data k) off).map ([·])
  | .rd u off => (genericOp (readFields u 0#5) off).map ([·])
  | .itTick => .ok [.itAdv 1#32]
  | .flush k => .ok [.render k]
  | .ttSetCount ch v => .ok [.ttWmsb2 (highByte v) 0#32, toneCommitOp ch (lowByte v)]
  | .mtSetCount ch v => .ok [musicCountOp ch (lowByte v), musicCountOp ch (highByte v)]
  | .ttSetCr .ch0 v => .ok [.ttWmc (cr1 ||| 0x01#8) 0#32, .ttWcr v 0#32]
  | .ttSetCr .ch1 v => .ok [.ttWmc v 0#32]
  | .ttSetCr .ch2 v => .ok [.ttWmc (cr1 &&& 0xFE#8) 0#32, .ttWcr v 0#32]

/-! ### Reading a line -/

/-- The writes that have a mnemonic line `<mnemonic> <data>[, k=<k>]`; `IT.WIGN` is written in the generic
form, which carries its offset. -/
def writeMnemonics : List (String × (Byte → BitVec 32 → Instr)) :=
  [("IT.WPAD", .itWpad), ("IT.WPADDR", .itWpaddr), ("IT.WPBD", .itWpbd), ("IT.WPBDDR", .itWpbddr),
   ("IT.LD1", .itLd1), ("IT.LD8", .itLd8), ("IT.LD64", .itLd64), ("IT.LD1K", .itLd1k),
   ("IT.LD1I", .itLd1i), ("IT.LD8I", .itLd8i), ("IT.LD64I", .itLd64i), ("IT.LD1KI", .itLd1ki)] ++
  [("TT.WCR", .ttWcr), ("TT.WMC", .ttWmc), ("TT.WMSB2", .ttWmsb2), ("TT.WMSB4", .ttWmsb4),
   ("TT.WMSB6", .ttWmsb6), ("TT.WLSB0", .ttWlsb0), ("TT.WLSB1", .ttWlsb1), ("TT.WLSB2", .ttWlsb2)] ++
  [("MT.WCNT0", .mtWcnt0), ("MT.WCNT1", .mtWcnt1), ("MT.WCNT2", .mtWcnt2), ("MT.WGATE", .mtWgate),
   ("SFX.WCTL", .sfxWctl), ("SFX.WVOL0", .sfxWvol0), ("SFX.WVOL1", .sfxWvol1), ("SFX.WVOL2", .sfxWvol2)]

/-- The reads that have a mnemonic line, which may end in `-> <value>`; the two aliased reads stand for
their lower offset. The catch-all reads are written in the generic form. -/
def readMnemonics : List (String × Instr) :=
  [("IT.RPAD", .itRpad), ("IT.RPADDR", .itRpaddr), ("IT.RPBD", .itRpbd), ("IT.RPBDDR", .itRpbddr),
   ("IT.RCNT", .itRcnt false), ("IT.RFLG", .itRflg false)]

/-- The lines that are a mnemonic alone. -/
def plainMnemonics : List (String × TraceLine) := [("RESET", .op .reset), ("IT.TICK", .itTick)]

/-- The lines that are a mnemonic and a 32-bit count. -/
def countMnemonics : List (String × (BitVec 32 → TraceLine)) :=
  [("RENDER", fun n => .op (.render n)), ("IT.ADV", fun t => .op (.itAdv t)), ("FLUSH", .flush)]

/-- The lines that are a mnemonic, a channel and a value of at most `2 ^ width - 1`. -/
def channelMnemonics : List (String × Nat × (Chan → Nat → TraceLine)) :=
  [("TT.SETCOUNT", 16, fun ch v => .ttSetCount ch (BitVec.ofNat 16 v)),
   ("MT.SETCOUNT", 16, fun ch v => .mtSetCount ch (BitVec.ofNat 16 v)),
   ("TT.SETCR", 8, fun ch v => .ttSetCr ch (BitVec.ofNat 8 v))]

/-- The value of a digit of the given base, at most 16. -/
def digitValue (base : Nat) (c : Char) : Option Nat :=
  let n := c.toNat
  let v := if 48 ≤ n ∧ n ≤ 57 then n - 48 else if 65 ≤ n ∧ n ≤ 70 then n - 55
    else if 97 ≤ n ∧ n ≤ 102 then n - 87 else 16
  if v < base then some v else none

/-- The number a non-empty string of digits is. -/
def digitsValue (base : Nat) : List Char → Nat → Option Nat
  | [], acc => some acc
  | c :: cs, acc => (digitValue base c).bind fun v => digitsValue base cs (acc * base + v)

/-- A decimal or `0x` hexadecimal number below `2 ^ width` (30 R72). -/
def numberOf (width : Nat) (cs : List Char) : Option Nat :=
  let v := match cs with
    | '0' :: 'x' :: c :: cs => digitsValue 16 (c :: cs) 0
    | c :: cs => digitsValue 10 (c :: cs) 0
    | [] => none
  v.bind fun n => if n < 2 ^ width then some n else none

/-- The words of a line up to its comment: runs of characters between blanks, a comma a word of its own. -/
def wordsOf : List Char → List Char → List (List Char)
  | [], w => if w = [] then [] else [w.reverse]
  | c :: cs, w =>
    let done := if w = [] then [] else [w.reverse]
    if c = ';' then done
    else if c = ' ' then done ++ wordsOf cs []
    else if c = ',' then done ++ [','] :: wordsOf cs []
    else wordsOf cs (c :: w)

/-- A unit's name. -/
def unitNamed (w : List Char) : Option BusUnit :=
  if w = ['I', 'T'] then some .it
  else if w = ['T', 'T'] then some .tt
  else if w = ['M', 'T'] then some .mt
  else if w = ['S', 'F', 'X'] then some .sfx
  else none

/-- A channel's number. -/
def channelNamed (w : List Char) : Option Chan :=
  match numberOf 2 w with
  | some 0 => some .ch0
  | some 1 => some .ch1
  | some 2 => some .ch2
  | _ => none

/-- The optional `, k=<k>` at the end of a write line; `k` is 0 where it is left out. -/
def flushOf : List (List Char) → Option (BitVec 32)
  | [] => some 0#32
  | [[','], 'k' :: '=' :: k] => (numberOf 32 k).map (BitVec.ofNat 32)
  | _ => none

/-- `-> <value>` after a read. -/
def answerOf (line : TraceLine) : List (List Char) → Option (TraceLine × Option Byte)
  | [] => some (line, none)
  | [['-', '>'], v] => (numberOf 8 v).map fun v => (line, some (BitVec.ofNat 8 v))
  | _ => none

/-- A write line after its mnemonic. -/
def writeArgs (mk : Byte → BitVec 32 → Instr) : List (List Char) → Option (TraceLine × Option Byte)
  | d :: rest => do
    let data ← numberOf 8 d
    let k ← flushOf rest
    some (.op (mk (BitVec.ofNat 8 data) k), none)
  | [] => none

/-- A count line after its mnemonic. -/
def countArgs (mk : BitVec 32 → TraceLine) : List (List Char) → Option (TraceLine × Option Byte)
  | [n] => (numberOf 32 n).map fun n => (mk (BitVec.ofNat 32 n), none)
  | _ => none

/-- A channel line after its mnemonic. -/
def channelArgs (width : Nat) (mk : Chan → Nat → TraceLine) :
    List (List Char) → Option (TraceLine × Option Byte)
  | [ch, [','], v] => do
    let ch ← channelNamed ch
    let v ← numberOf width v
    some (mk ch v, none)
  | _ => none

/-- A generic `WR` line after its first word. -/
def genericWriteArgs : List (List Char) → Option (TraceLine × Option Byte)
  | u :: [','] :: off :: [','] :: d :: rest => do
    let u ← unitNamed u
    let off ← numberOf 5 off
    let data ← numberOf 8 d
    let k ← flushOf rest
    some (.wr u off (BitVec.ofNat 8 data) k, none)
  | _ => none

/-- A generic `RD` line after its first word. -/
def genericReadArgs : List (List Char) → Option (TraceLine × Option Byte)
  | u :: [','] :: off :: rest => do
    let u ← unitNamed u
    let off ← numberOf 5 off
    answerOf (.rd u off) rest
  | _ => none

/-- The line a list of words is, and the byte it claims a read returns (30 R72). The first word belongs to
at most one of the lists. -/
def lineOf : List (List Char) → Option (TraceLine × Option Byte)
  | m :: args =>
    let name := String.ofList m
    (writeMnemonics.lookup name).bind (writeArgs · args) <|>
    (readMnemonics.lookup name).bind (fun i => answerOf (.op i) args) <|>
    (plainMnemonics.lookup name).bind (fun l => if args = [] then some (l, none) else none) <|>
    (countMnemonics.lookup name).bind (countArgs · args) <|>
    (channelMnemonics.lookup name).bind (fun w => channelArgs w.1 w.2 args) <|>
    (if name = "WR" then genericWriteArgs args else none) <|>
    (if name = "RD" then genericReadArgs args else none)
  | [] => none

/-- The reading of one line of a trace (30 R72); `none` where it is not of the syntax. -/
def readLine (text : List Char) : Option (TraceLine × Option Byte) := lineOf (wordsOf text [])

end Sys2Proof.Machine
end

