-- ==== Sys2Proof/Safety.lean ====
section
/-! DEFINITION. Safety.lean: the invariant of the reachable states (10_state R31) and the words the
statements are written in: runs of several operations, the flush of an operation, the closed form of
`IT.ADV` (42 R110) and the sample a rendering emits at an index (45 R167). -/

namespace Sys2Proof

/-- A bus write (30 R61, kind 1). -/
def Instr.isWrite (i : Instr) : Bool := i.fields.kind == 1#4

/-- A bus read (30 R61, kind 0). -/
def Instr.isRead (i : Instr) : Bool := i.fields.kind == 0#4

/-- The samples an operation renders: the flush count of a write, the length of a `RENDER` (46 R186). -/
def Instr.rendered (i : Instr) : BitVec 32 :=
  if i.fields.kind = 1#4 ∨ i.fields.kind = 2#4 then i.fields.cnt else 0#32

/-- A write of the interval timer to a load port, `off[4] = off[2] = 1` (30 R64). -/
def Instr.isLoad (i : Instr) : Bool :=
  i.isWrite && i.fields.unitSel == 0#2 && i.fields.off.getLsbD 4 && i.fields.off.getLsbD 2

/-- The same write with another flush count (46 R187); the other operations unchanged. -/
def Instr.withFlush (i : Instr) (k : BitVec 32) : Instr :=
  match i with
  | .itWpad d _ => .itWpad d k
  | .itWpaddr d _ => .itWpaddr d k
  | .itWpbd d _ => .itWpbd d k
  | .itWpbddr d _ => .itWpbddr d k
  | .itLd1 d _ => .itLd1 d k
  | .itLd8 d _ => .itLd8 d k
  | .itLd64 d _ => .itLd64 d k
  | .itLd1k d _ => .itLd1k d k
  | .itLd1i d _ => .itLd1i d k
  | .itLd8i d _ => .itLd8i d k
  | .itLd64i d _ => .itLd64i d k
  | .itLd1ki d _ => .itLd1ki d k
  | .itWign off d _ => .itWign off d k
  | .itRpad => .itRpad
  | .itRpaddr => .itRpaddr
  | .itRpbd => .itRpbd
  | .itRpbddr => .itRpbddr
  | .itRcnt al => .itRcnt al
  | .itRflg al => .itRflg al
  | .itRund off => .itRund off
  | .ttWcr d _ => .ttWcr d k
  | .ttWmc d _ => .ttWmc d k
  | .ttWmsb2 d _ => .ttWmsb2 d k
  | .ttWmsb4 d _ => .ttWmsb4 d k
  | .ttWmsb6 d _ => .ttWmsb6 d k
  | .ttWlsb0 d _ => .ttWlsb0 d k
  | .ttWlsb1 d _ => .ttWlsb1 d k
  | .ttWlsb2 d _ => .ttWlsb2 d k
  | .ttRund off => .ttRund off
  | .mtWcnt0 d _ => .mtWcnt0 d k
  | .mtWcnt1 d _ => .mtWcnt1 d k
  | .mtWcnt2 d _ => .mtWcnt2 d k
  | .mtWgate d _ => .mtWgate d k
  | .mtRund off => .mtRund off
  | .sfxWctl d _ => .sfxWctl d k
  | .sfxWvol0 d _ => .sfxWvol0 d k
  | .sfxWvol1 d _ => .sfxWvol1 d k
  | .sfxWvol2 d _ => .sfxWvol2 d k
  | .sfxRund off => .sfxRund off
  | .render n => .render n
  | .itAdv t => .itAdv t
  | .reset => .reset

end Sys2Proof

namespace Sys2Proof.Machine

/-- What holds in every reachable state (10_state R31, R27): (a) every step is `FreqStep` of its count;
(c), (d), (e) the timer's elapsed count lies below the end of its leg; (f) the line is high only with the
flag set; the cursor is the length of the stream; and the constants of decision D3 stand, in the
configuration in use and in the one the next `RESET` brings. Clauses (b) and (h) hold by the definitions;
(g) follows from the constants. -/
structure Inv (s : State) : Prop where
  structural : s.cfg.Structural
  structuralIn : s.cfgIn.Structural
  toneSteps : ∀ ch, s.tt.ttStep.get ch = freqStep s.cfg (s.tt.ttCount.get ch)
  musicSteps : ∀ ch, s.mt.mtStep.get ch = freqStep s.cfg (s.mt.mtCount.get ch)
  idleAtZero : s.it.itState = .idle → s.it.itElapsed = 0#18
  belowUpLeg : s.it.itState = .countingUp → s.it.itElapsed.toNat < upLeg s.cfg s.it
  belowDownLeg : s.it.itState = .countingDown → s.it.itElapsed.toNat < downLeg s.cfg s.it
  lineNeedsFlag : s.it.irqLine = true → s.it.irqFlag = true
  cursorCounts : s.cursor = s.samples.length

/-- The calls of `on_interrupt_line_changed` follow the level (60 R203): the first call is a rise, each call
differs from the one before it, and the last one gave the present level. -/
def CallsFollowLine (s : State) : Prop :=
  List.IsChain (· ≠ ·) (false :: s.irqCalls) ∧ s.irqCalls.getLastD false = s.it.irqLine

/-- The operations of a list, in order, stopping at the first that answers no state. -/
def runOps : List Instr → State → Result
  | [], s => .next s
  | i :: is, s =>
    match exec i s with
    | .next t => runOps is t
    | .fault r => .fault r
    | .refused r => .refused r

/-- The eight load ports with their divider index and interrupt enable (42 R101's table). -/
def loadPorts : List ((Byte → BitVec 32 → Instr) × BitVec 2 × Bool) :=
  [(.itLd1, 0#2, false), (.itLd8, 1#2, false), (.itLd64, 2#2, false), (.itLd1k, 3#2, false),
   (.itLd1i, 0#2, true), (.itLd8i, 1#2, true), (.itLd64i, 2#2, true), (.itLd1ki, 3#2, true)]

/-- The commit writes of the tone timer with their channels (43 R134). -/
def toneCommits : List ((Byte → BitVec 32 → Instr) × Chan) :=
  [(.ttWlsb0, .ch0), (.ttWlsb1, .ch1), (.ttWlsb2, .ch2)]

/-- The count writes of the music timer with their channels (44 R151). -/
def musicCounts : List ((Byte → BitVec 32 → Instr) × Chan) :=
  [(.mtWcnt0, .ch0), (.mtWcnt1, .ch1), (.mtWcnt2, .ch2)]

/-- The volume writes with their channels (45 R177). -/
def volumeWrites : List ((Byte → BitVec 32 → Instr) × Chan) :=
  [(.sfxWvol0, .ch0), (.sfxWvol1, .ch1), (.sfxWvol2, .ch2)]

/-! ### The closed form of `IT.ADV` (42 R110) -/

/-- `t` ticks of the second leg. -/
def advDown (c : Config) (t : Nat) (x : IntervalTimer) : IntervalTimer :=
  if t < downLeg c x - x.itElapsed.toNat then { x with itElapsed := x.itElapsed + BitVec.ofNat 18 t }
  else itExp2 x

/-- `t` ticks, without going through them one by one. -/
def advClosed (c : Config) (t : Nat) (x : IntervalTimer) : IntervalTimer :=
  match x.itState with
  | .idle => x
  | .countingDown => advDown c t x
  | .countingUp =>
    let left := upLeg c x - x.itElapsed.toNat
    if t < left then { x with itElapsed := x.itElapsed + BitVec.ofNat 18 t }
    else advDown c (t - left) (itExp1 x)

/-! ### The sample at an index (45 R167 to R172) -/

/-- `ch` is one of the `N_TONE` tone channels (00_scope R5; log 14). -/
def toneExists (s : State) (ch : Chan) : Bool := decide (ch.index < s.cfg.nTone)

/-- `ch` is one of the `N_MUSIC` music channels (00_scope R5; log 14). -/
def musicExists (s : State) (ch : Chan) : Bool := decide (ch.index < s.cfg.nMusic)

/-- A tone channel that can sound: one of the `N_TONE`, enabled, and not the muted channel 0. -/
def toneAudible (s : State) (ch : Chan) : Bool :=
  toneExists s ch && toneEnabled s ch && !(ch == .ch0 && channel0Mute s.sfx.sfxControl)

/-- A music channel that can sound: one of the `N_MUSIC`, enabled. -/
def musicAudible (s : State) (ch : Chan) : Bool :=
  musicExists s ch && s.mt.mtEnabled.get ch

/-- The increment of a tone channel's `i`-th sample of a rendering from `s` (45 R168, R170). -/
def toneIncrement (draw : DrawSource) (s : State) (ch : Chan) (i : Nat) : Phase :=
  if toneNoisy s ch then
    noiseIncAt s.cfg draw (avgStep s.cfg (noiseFreq s.cfg s.sfx.sfxControl s.tt.ttCount.ch0) (s.tt.ttCount.get ch))
      ch (s.draws.get ch + i)
  else s.tt.ttStep.get ch

/-- The phase of a sounding tone channel after `i` samples. -/
def tonePhaseAfter (draw : DrawSource) (s : State) (ch : Chan) : Nat → Phase
  | 0 => s.tt.ttPhase.get ch
  | i + 1 => tonePhaseAfter draw s ch i + toneIncrement draw s ch i

/-- The phase of a sounding music channel after `i` samples (45 R171; 40 R87). -/
def musicPhaseAfter (s : State) (ch : Chan) (i : Nat) : Phase :=
  s.mt.mtPhase.get ch + BitVec.ofNat 32 i * s.mt.mtStep.get ch

/-- What tone channel `ch` adds to sample `i`: its volume if it is high there. -/
def toneShare (draw : DrawSource) (s : State) (ch : Chan) (i : Nat) : Nat :=
  if toneAudible s ch && (tonePhaseAfter draw s ch (i + 1)).getLsbD s.cfg.toneBit then (toneVolume s ch).toNat
  else 0

/-- What music channel `ch` adds to sample `i`. -/
def musicShare (s : State) (ch : Chan) (i : Nat) : Nat :=
  if musicAudible s ch && (musicPhaseAfter s ch (i + 1)).getLsbD s.cfg.musicBit then (musicVolume s).toNat
  else 0

/-- Sample `i` of a rendering from `s`, as an exact sum (45 R167). -/
def sampleAt (draw : DrawSource) (s : State) (i : Nat) : Nat :=
  toneShare draw s .ch0 i + toneShare draw s .ch1 i + toneShare draw s .ch2 i +
    musicShare s .ch0 i + musicShare s .ch1 i + musicShare s .ch2 i

/-- No channel is enabled (45 R172). -/
def allDisabled (s : State) : Prop :=
  ∀ ch, toneEnabled s ch = false ∧ s.mt.mtEnabled.get ch = false

/-- `TT.SETCOUNT`, `MT.SETCOUNT` and `TT.SETCR` as runs of their expansions (30 R73). -/
def runLine (l : TraceLine) (s : State) : Option Result :=
  match expandLine s.tt.ttCr.ch1 l with
  | .ok is => some (runOps is s)
  | .error _ => none

end Sys2Proof.Machine
end

