-- ==== Sys2Proof/Certificates/Slice0/Obligations.lean ====
section
/-! DEFINITION. Certificates/Slice0/Obligations.lean: the statements about the model, each named after what
it says. "derived" in a docstring marks a statement that rests on a decision or an inference of the spec or
on a choice of the model, and names it. -/

open Sys2Proof Sys2Proof.Machine

/-! ### Encoding -/

/-- Decoding the record of a well-formed operation gives the operation back, with every operand
(30 R61, R66). -/
def Obligations.DecodeGivesBackEncodedOperation : Prop :=
  ∀ i : Instr, i.wellFormed = true → decode (encode i) = .ok i

/-- A record that decodes is the record of a well-formed operation: each record has one meaning and no bit
of it is dropped (30 R61, R66, R68). -/
def Obligations.EncodeGivesBackDecodedRecord : Prop :=
  ∀ (w : Record) (i : Instr), decode w = .ok i → encode i = w ∧ i.wellFormed = true

/-- The decoder and the 47 rows of the opcode table agree: a record that decodes is of exactly one row, the
row of its mnemonic, and a record of no row is refused (30 R66). The encoding is the spec's decision D1. -/
def Obligations.DecoderFollowsOpcodeTable : Prop :=
  (∀ (w : Record) (i : Instr), decode w = .ok i →
    ∃ r ∈ opcodeTable, r.covers w = true ∧ r.mnemonic = i.mnemonic ∧
      ∀ r' ∈ opcodeTable, r'.covers w = true → r' = r) ∧
  (∀ w : Record, (∀ r ∈ opcodeTable, r.covers w = false) ↔ ∃ why, decode w = .error why)

/-- The records of 30 R68's list, and no others, are reserved, and a step refuses them. The list is the
spec's decision D1; that the step stops is log 3. -/
def Obligations.ReservedRecordsAreRefused : Prop :=
  ∀ w : Record,
    (((5 ≤ (fieldsOf w).kind.toNat ∨ (fieldsOf w).z1 ≠ 0#5 ∨ (fieldsOf w).z2 ≠ 0#8) ∨
      ((fieldsOf w).unitSel = 1#2 ∧ 7 < (fieldsOf w).off.toNat) ∨
      (((fieldsOf w).unitSel = 2#2 ∨ (fieldsOf w).unitSel = 3#2) ∧ 3 < (fieldsOf w).off.toNat) ∨
      ((fieldsOf w).kind = 0#4 ∧ ((fieldsOf w).data ≠ 0#8 ∨ (fieldsOf w).cnt ≠ 0#32)) ∨
      (((fieldsOf w).kind = 2#4 ∨ (fieldsOf w).kind = 3#4 ∨ (fieldsOf w).kind = 4#4) ∧
        ((fieldsOf w).unitSel ≠ 0#2 ∨ (fieldsOf w).off ≠ 0#5 ∨ (fieldsOf w).data ≠ 0#8)) ∨
      ((fieldsOf w).kind = 4#4 ∧ (fieldsOf w).cnt ≠ 0#32)) ↔ ∃ why, decode w = .error why) ∧
    ∀ (s : State) (rest : List Record) (why : Reserved), decode w = .error why → s.trace = w :: rest →
      step s = .refused (.reservedRecord why)

/-- The six records that 30 R61 writes out decode to the operations they stand for (decision D1). -/
def Obligations.WrittenRecordsDecode : Prop :=
  decode 0x1460E40000000000#64 = .ok (.ttWlsb0 0xE4#8 0#32) ∧
  decode 0x13A0640000000000#64 = .ok (.itLd8i 100#8 0#32) ∧
  decode 0x00A0000000000000#64 = .ok (.itRflg false) ∧
  decode 0x200000000000012C#64 = .ok (.render 300#32) ∧
  decode 0x3000000000000320#64 = .ok (.itAdv 800#32) ∧
  decode 0x4000000000000000#64 = .ok .reset

/-! ### Steps, runs and the invariant -/

/-- A step performs the next operation issued, with that operation taken off the queue, and with no
operation issued it leaves the state as it is (00_scope R8; the queue is log 1, waiting is log 2). -/
def Obligations.StepPerformsTheIssuedOperation : Prop :=
  ∀ s : State,
    (∀ (w : Record) (rest : List Record) (i : Instr), s.trace = w :: rest → decode w = .ok i →
      step s = exec i { s with trace := rest }) ∧
    (s.trace = [] → step s = .next s)

/-- Every operation, with every operand, in every state, answers a next state (60 R200, 46 R190). -/
def Obligations.EveryOperationAnswersANextState : Prop :=
  ∀ (i : Instr) (s : State), ∃ t, exec i s = .next t

/-- Every step keeps the invariant of 10_state R31. -/
def Obligations.StepKeepsInvariant : Prop :=
  ∀ s t : State, Inv s → step s = .next t → Inv t

/-- The state after reset has the invariant. -/
def Obligations.ResetStateHasInvariant : Prop := Inv State.reset

/-- Every step keeps the calls of the output callback in line with the level: they alternate, beginning
with a rise, and the last one gave the present level (60 R203; decision D25, log 11). -/
def Obligations.StepKeepsCallsOnChangesOnly : Prop :=
  CallsFollowLine State.reset ∧ ∀ s t : State, CallsFollowLine s → step s = .next t → CallsFollowLine t

/-- `RESET` gives every field the value of 10_state R30's table and empties the stream; the parameters are
the ones supplied with it (70 R220; decisions D26, D34). The environment's own fields go on (log 5, 8, 10,
11). -/
def Obligations.ResetOperationGivesTheTable : Prop :=
  ∀ s : State, exec .reset s = .next
    { cfg := s.cfgIn
      it := ⟨.idle, 0#2, 0#8, 0#18, false, false, false, 0#8, 0#8, 0#8, 0#8⟩
      tt := ⟨⟨0#8, 0#8, 0#8⟩, 0#8, ⟨0#16, 0#16, 0#16⟩, ⟨0#32, 0#32, 0#32⟩, ⟨0#32, 0#32, 0#32⟩⟩
      mt := ⟨⟨false, false, false⟩, ⟨0#8, 0#8, 0#8⟩, ⟨0#16, 0#16, 0#16⟩, ⟨0#32, 0#32, 0#32⟩,
        ⟨false, false, false⟩, ⟨0#32, 0#32, 0#32⟩⟩
      sfx := ⟨0#8, ⟨s.cfgIn.resetSfxVol, s.cfgIn.resetSfxVol, s.cfgIn.resetSfxVol⟩⟩
      cursor := 0
      samples := []
      readData := none
      irqCalls := if s.it.irqLine then s.irqCalls ++ [false] else s.irqCalls
      trace := s.trace
      cfgIn := s.cfgIn
      draws := s.draws
      openReads := s.openReads }

/-- The re-initialisation of 40 R88 keeps all state but the rate and the steps, and makes every step the
`FreqStep` of its count under the new rate (decision D28). -/
def Obligations.ReinitialiseRecomputesSteps : Prop :=
  ∀ (rate : Nat) (s : State) (ch : Chan),
    (reinitialise rate s).cfg = { s.cfg with sampleRate := rate } ∧
    (reinitialise rate s).tt.ttStep.get ch = freqStep { s.cfg with sampleRate := rate } (s.tt.ttCount.get ch) ∧
    (reinitialise rate s).mt.mtStep.get ch = freqStep { s.cfg with sampleRate := rate } (s.mt.mtCount.get ch) ∧
    { reinitialise rate s with
      cfg := s.cfg
      tt := { (reinitialise rate s).tt with ttStep := s.tt.ttStep }
      mt := { (reinitialise rate s).mt with mtStep := s.mt.mtStep } } = s

/-- With `SAMPLE_RATE = 0`, from phases 0, every operation but `RESET` leaves the phases 0 and every sample
it renders is 0 (40 R84, derived there). -/
def Obligations.ZeroSampleRateIsSilent : Prop :=
  ∀ (i : Instr) (s : State), Inv s → s.cfg.sampleRate = 0 → s.tt.ttPhase = .fill 0#32 →
    s.mt.mtPhase = .fill 0#32 → i ≠ .reset →
    ∃ t, exec i s = .next t ∧ t.tt.ttPhase = .fill 0#32 ∧ t.mt.mtPhase = .fill 0#32 ∧
      t.samples = s.samples ++ List.replicate i.rendered.toNat 0#16

/-! ### Phase accumulator and noise -/

/-- `Advance` adds modulo 2^32 and tests the bit of the sum (40 R81). -/
def Obligations.AdvanceAddsThenTestsTheSum : Prop :=
  ∀ (p st : Phase) (hb : Nat), hb = 24 ∨ hb = 23 →
    (advance p st hb).1.toNat = (p.toNat + st.toNat) % 2 ^ 32 ∧
    (advance p st hb).2 = ((p.toNat + st.toNat) % 2 ^ 32).testBit hb

/-- A channel with a constant step: after `n` samples the phase has moved by `n *32 step` (40 R87), and
sample `i` is high exactly when the tested bit of `p0 + (i+1)*step` is 1 (40 R86); both derived there. -/
def Obligations.ConstantStepWaveform : Prop :=
  ∀ (hb : Nat) (v : Sample) (st p : Phase) (n : Nat),
    (walk hb v (fun _ => st) 0 (List.replicate n 0#16) p).1 = p + BitVec.ofNat 32 n * st ∧
    (walk hb v (fun _ => st) 0 (List.replicate n 0#16) p).2 =
      (List.range n).map fun i => if ((p.toNat + (i + 1) * st.toNat) % 2 ^ 32).testBit hb then v else 0#16

/-- `FreqStep` is the low 32 bits of a natural within 1 of `2^24 * MASTER_CLOCK / (count * SAMPLE_RATE)`,
under the default rounding of the nearest one, a tie going up; and 0 for a zero rate or count (40 R83, R84,
R85; decision D4; the roundings are log 13). -/
def Obligations.FreqStepIsTheNearestQuotient : Prop :=
  ∀ (c : Config) (count : Count), c.Structural →
    (c.sampleRate = 0 ∨ count = 0#16 → freqStep c count = 0#32) ∧
    (c.sampleRate ≠ 0 → count ≠ 0#16 →
      ∃ q : Nat, freqStep c count = BitVec.ofNat 32 q ∧
        q * (count.toNat * c.sampleRate) ≤ 2 ^ 24 * c.masterClock + count.toNat * c.sampleRate ∧
        2 ^ 24 * c.masterClock ≤ (q + 1) * (count.toNat * c.sampleRate) ∧
        (c.stepRound = .nearest →
          2 * q * (count.toNat * c.sampleRate) ≤ 2 * (2 ^ 24 * c.masterClock) + count.toNat * c.sampleRate ∧
          2 * (2 ^ 24 * c.masterClock) < (2 * q + 1) * (count.toNat * c.sampleRate)))

/-- `NoiseFreq()` (41 R90; decisions D7, D8): the master clock, or channel 0's output, or 0. -/
def Obligations.NoiseClockSelection : Prop :=
  ∀ (c : Config) (ctl : Byte) (count0 : Count),
    (ctl.getLsbD 0 = false → noiseFreq c ctl count0 = (c.masterClock, 1)) ∧
    (ctl.getLsbD 0 = true → count0 ≠ 0#16 →
      noiseFreq c ctl count0 = (c.masterClock, c.noiseCh0Div * count0.toNat)) ∧
    (ctl.getLsbD 0 = true → count0 = 0#16 → noiseFreq c ctl count0 = (0, 1))

/-- `AvgStep` with the stated constants is `rdiv(128 * fn, count * SAMPLE_RATE * fd)` (41 R92; decision D6):
the nearest natural, a tie up, in its low 32 bits; and 0 for a zero rate, count or noise clock. -/
def Obligations.AverageStepIsTheNearestQuotient : Prop :=
  ∀ (c : Config) (fn fd : Nat) (count : Count), c.Structural →
    (c.sampleRate = 0 ∨ count = 0#16 ∨ fn = 0 → avgStep c (fn, fd) count = 0#32) ∧
    (c.sampleRate ≠ 0 → count ≠ 0#16 → fn ≠ 0 → fd ≠ 0 →
      ∃ q : Nat, avgStep c (fn, fd) count = BitVec.ofNat 32 q ∧
        2 * q * (count.toNat * c.sampleRate * fd) ≤ 2 * (128 * fn) + count.toNat * c.sampleRate * fd ∧
        2 * (128 * fn) < (2 * q + 1) * (count.toNat * c.sampleRate * fd))

/-- The noise increment over all pairs of draws, where no product reaches 2^32: the value is
`AvgStep * (r1 + r2)`, the sum over the 2^30 pairs is 2^30 times `AvgStep * 32767`, and the number of pairs
with a given sum is a triangle that peaks at 32767 (41 R93, R95, R96; derived there). The draws are those of
`RAND_MAX15 = 32767`, the value of 00_scope R5. -/
def Obligations.NoiseIncrementMeanAndTriangle : Prop :=
  (∀ (a : Phase) (r1 r2 : Nat), r1 ≤ 32767 → r2 ≤ 32767 → a.toNat * 65534 < 2 ^ 32 →
    (noiseInc a r1 r2).toNat = a.toNat * (r1 + r2)) ∧
  (∀ a : Phase, a.toNat * 65534 < 2 ^ 32 →
    (∑ x ∈ Finset.range 32768, ∑ y ∈ Finset.range 32768,
      (noiseInc a x y).toNat) = 2 ^ 30 * (a.toNat * 32767)) ∧
  (∀ v : Nat, v ≤ 65534 →
    ((Finset.range 32768 ×ˢ Finset.range 32768).filter fun p => p.1 + p.2 = v).card =
      min (v + 1) (65535 - v))

/-! ### Interval timer -/

/-- A load of a non-zero count at any of the eight ports, after its flush: the first leg starts over, the
line drops, the enable and the divider come from the port, and the flag is kept by the `I` ports and
otherwise cleared as `IT_LOAD_DISABLE_CLEARS_FLAG` says (42 R101, R102; decision D19). That one call of the
output is made when the line drops, and none otherwise, is derived from 60 R203 with decision D25 and is the
model's record of calls (log 11). -/
def Obligations.LoadStartsTheFirstLeg : Prop :=
  ∀ p ∈ loadPorts, ∀ (s : State) (d : Byte) (k : BitVec 32), d ≠ 0#8 →
    ∃ u, exec (.render k) s = .next u ∧ exec (p.1 d k) s = .next
      { u with
        it := { u.it with
          itDivsel := p.2.1
          irqEnabled := p.2.2
          itLoad := d
          itElapsed := 0#18
          itState := .countingUp
          irqLine := false
          irqFlag := if p.2.2 = false ∧ u.cfg.itLoadDisableClearsFlag = true then false else u.it.irqFlag }
        irqCalls := if u.it.irqLine then u.irqCalls ++ [false] else u.irqCalls }

/-- A load of zero performs the first expiry inside the load (42 R103; decision D18): it ends in the second
leg with the flag set and the line at the enable. That the output is called once, with the level at the end,
exactly when it differs from the level before the load, so that an `I` port with the line already high makes
no call, is the model's reading of 60 R203 and decision D25 (log 11). -/
def Obligations.LoadOfZeroExpiresAtOnce : Prop :=
  ∀ p ∈ loadPorts, ∀ (s : State) (k : BitVec 32),
    ∃ u, exec (.render k) s = .next u ∧ exec (p.1 0#8 k) s = .next
      { u with
        it := { u.it with
          itDivsel := p.2.1
          irqEnabled := p.2.2
          itLoad := 0#8
          itElapsed := 0#18
          itState := .countingDown
          irqLine := p.2.2
          irqFlag := true }
        irqCalls := if p.2.2 = u.it.irqLine then u.irqCalls else u.irqCalls ++ [p.2.2] }

/-- The first expiry sets the flag whether or not the interrupt is enabled, raises the line only if it is,
and starts the second leg; a line already high stays high (42 R105). -/
def Obligations.FirstExpiryLatchesTheFlag : Prop :=
  ∀ x : IntervalTimer, itExp1 x =
    { x with
      irqFlag := true
      irqLine := if x.irqEnabled = true then true else x.irqLine
      itState := .countingDown
      itElapsed := 0#18 }

/-- The second expiry stops the timer and touches neither flag nor line; ticks after it have no effect
(42 R106). -/
def Obligations.SecondExpiryStops : Prop :=
  ∀ (c : Config) (x : IntervalTimer),
    itExp2 x = { x with itState := .idle, itElapsed := 0#18 } ∧
    ∀ t, itTicks c t (itExp2 x) = itExp2 x

/-- `IT.ADV t` equals its closed form in every state of the invariant (42 R110, derived there); the calls of the
output follow the level by 60 R203 with decision D25 (log 11). -/
def Obligations.AdvanceEqualsItsClosedForm : Prop :=
  ∀ (s : State) (t : BitVec 32), Inv s →
    exec (.itAdv t) s = .next (setTimer (advClosed s.cfg t.toNat s.it) s)

/-- `IT.ADV 0` changes nothing, and `IT.ADV a ; IT.ADV b` equals `IT.ADV (a+b)` (42 R110). -/
def Obligations.AdvanceComposes : Prop :=
  ∀ (s : State) (a b : BitVec 32), exec (.itAdv 0#32) s = .next s ∧
    (a.toNat + b.toNat < 2 ^ 32 → runOps [.itAdv a, .itAdv b] s = exec (.itAdv (a + b)) s)

/-- From any state, a load of `N ≥ 1` at any port and then `t` ticks: for `t < D*N` no expiry falls, whatever
leg the load replaced (42 R113); at `t = D*N` the flag is set, the line is at the enable and the second leg
starts; a flag read then clears both, and `D*255` ticks later the timer is idle with both still clear
(42 R114). Both derived there. -/
def Obligations.LoadExpiresExactlyOnTime : Prop :=
  ∀ p ∈ loadPorts, ∀ (s : State) (d : Byte) (t : BitVec 32), s.cfg.Structural → d ≠ 0#8 →
    t.toNat ≤ divider s.cfg p.2.1 * d.toNat →
    ∃ s1 s2, exec (p.1 d 0#32) s = .next s1 ∧ exec (.itAdv t) s1 = .next s2 ∧
      (t.toNat < divider s.cfg p.2.1 * d.toNat →
        s2.it = { s1.it with itElapsed := BitVec.ofNat 18 t.toNat } ∧ s2.it.irqLine = false) ∧
      (t.toNat = divider s.cfg p.2.1 * d.toNat →
        s2.it.irqFlag = true ∧ s2.it.irqLine = p.2.2 ∧ s2.it.itState = .countingDown ∧
        s2.it.itElapsed = 0#18 ∧
        ∃ s3 s4, exec (.itRflg false) s2 = .next s3 ∧ s3.it.irqFlag = false ∧ s3.it.irqLine = false ∧
          exec (.itAdv (BitVec.ofNat 32 (divider s.cfg p.2.1 * 255))) s3 = .next s4 ∧
          s4.it.itState = .idle ∧ s4.it.irqFlag = false ∧ s4.it.irqLine = false)

/-- A counter read returns elapsed divided ticks in the first leg, remaining ones in the second, both
truncated, and some byte in `Idle`; it drops the line and leaves the flag and the count (42 R107, R108;
decision D20; the idle byte is a free value, log 7). One call of the output is made when the line drops, and
none otherwise: derived from 60 R203 with decision D25, the model's record of calls (log 11). -/
def Obligations.CounterReadReportsTheLeg : Prop :=
  ∀ (s : State) (al : Bool), Inv s →
    ∃ b : Byte, exec (.itRcnt al) s = .next
        { s with
          readData := some b
          openReads := if s.it.itState = .idle then s.openReads + 1 else s.openReads
          it := { s.it with irqLine := false }
          irqCalls := if s.it.irqLine then s.irqCalls ++ [false] else s.irqCalls } ∧
      (s.it.itState = .countingUp →
        b.toNat = s.it.itElapsed.toNat / divider s.cfg s.it.itDivsel ∧ b.toNat < s.it.itLoad.toNat) ∧
      (s.it.itState = .countingDown →
        b.toNat = (divider s.cfg s.it.itDivsel * 255 - s.it.itElapsed.toNat) / divider s.cfg s.it.itDivsel)

/-- A flag read returns the flag as it was, in bit `IT_FLAG_BIT` (0x80 or 0x00 by default), clears flag and
line, and a second read returns 0 (42 R109; decision D21). One call of the output is made when the line drops,
and none otherwise: derived from 60 R203 with decision D25, the model's record of calls (log 11). -/
def Obligations.FlagReadReturnsAndClears : Prop :=
  ∀ (s : State) (al al' : Bool),
    ∃ t, exec (.itRflg al) s = .next t ∧
      t = { s with
        readData := some (BitVec.ofNat 8 (if s.it.irqFlag then 2 ^ s.cfg.itFlagBit else 0))
        it := { s.it with irqFlag := false, irqLine := false }
        irqCalls := if s.it.irqLine then s.irqCalls ++ [false] else s.irqCalls } ∧
      (s.cfg.itFlagBit = 7 → t.readData = some (if s.it.irqFlag then 0x80#8 else 0x00#8)) ∧
      exec (.itRflg al') t = .next { t with readData := some 0#8 }

/-- The port latches: each write stores its byte after the flush and changes nothing else; a direction read
returns its latch; a data read returns the byte of the pins, whatever it is (42 R111, R112; decision D22,
log 7). -/
def Obligations.PortLatchesHoldTheirBytes : Prop :=
  (∀ (s : State) (d : Byte) (k : BitVec 32), ∃ u, exec (.render k) s = .next u ∧
    exec (.itWpad d k) s = .next { u with it := { u.it with paOut := d } } ∧
    exec (.itWpaddr d k) s = .next { u with it := { u.it with paDdr := d } } ∧
    exec (.itWpbd d k) s = .next { u with it := { u.it with pbOut := d } } ∧
    exec (.itWpbddr d k) s = .next { u with it := { u.it with pbDdr := d } }) ∧
  (∀ s : State,
    exec .itRpaddr s = .next { s with readData := some s.it.paDdr } ∧
    exec .itRpbddr s = .next { s with readData := some s.it.pbDdr } ∧
    (∃ b, exec .itRpad s = .next { s with readData := some b, openReads := s.openReads + 1 }) ∧
    (∃ b, exec .itRpbd s = .next { s with readData := some b, openReads := s.openReads + 1 }))

/-- Over all operations: the enable is written only by loads; the flag rises only in `IT.ADV` and in a load
of zero, and falls only at a flag read and a load with the enable off; the line rises only where the flag is
set, with the enable on, and falls only at a flag read, a counter read and a load; `RESET` apart (10_state
R16, 60 R202, R203; decisions D18, D19). -/
def Obligations.InterruptBitsChangeOnlyAsListed : Prop :=
  ∀ (i : Instr) (s t : State), exec i s = .next t → i ≠ .reset →
    (t.it.irqEnabled ≠ s.it.irqEnabled → i.isLoad = true) ∧
    (s.it.irqFlag = false → t.it.irqFlag = true →
      (∃ n, i = .itAdv n) ∨ (i.isLoad = true ∧ i.fields.data = 0#8)) ∧
    (s.it.irqFlag = true → t.it.irqFlag = false →
      (∃ al, i = .itRflg al) ∨ (i.isLoad = true ∧ i.fields.off.getLsbD 3 = false)) ∧
    (s.it.irqLine = false → t.it.irqLine = true →
      t.it.irqFlag = true ∧ t.it.irqEnabled = true ∧
        ((∃ n, i = .itAdv n) ∨ (i.isLoad = true ∧ i.fields.data = 0#8))) ∧
    (s.it.irqLine = true → t.it.irqLine = false →
      (∃ al, i = .itRflg al) ∨ (∃ al, i = .itRcnt al) ∨ i.isLoad = true)

/-- Over all operations: the timer leaves `Idle` only by a load; it is in the first leg only by a load or by
having been in it; it returns to `Idle` only in `IT.ADV`; and it enters the second leg only in `IT.ADV` from
the first or by a load of zero; `RESET` apart (10_state R14, 42 R100; decisions D1, D18). -/
def Obligations.TimerStateChangesOnlyAsListed : Prop :=
  ∀ (i : Instr) (s t : State), exec i s = .next t → i ≠ .reset →
    (s.it.itState = .idle → t.it.itState ≠ .idle → i.isLoad = true) ∧
    (t.it.itState = .countingUp → s.it.itState ≠ .countingUp → i.isLoad = true) ∧
    (t.it.itState = .idle → s.it.itState ≠ .idle → ∃ n, i = .itAdv n) ∧
    (t.it.itState = .countingDown → s.it.itState ≠ .countingDown →
      ((∃ n, i = .itAdv n) ∧ s.it.itState = .countingUp) ∨ (i.isLoad = true ∧ i.fields.data = 0#8))

/-! ### Tone timer -/

/-- The control writes: the shared port writes `tt_cr[0]` when bit 0 of `tt_cr[1]` is 1 and `tt_cr[2]` when it
is 0; the master port writes `tt_cr[1]`; nothing else changes after the flush (43 R131, R132; decisions D12,
D13, which the spec takes from general knowledge, log 18). -/
def Obligations.ToneControlWritesTheirRegister : Prop :=
  ∀ (s : State) (d : Byte) (k : BitVec 32), ∃ u, exec (.render k) s = .next u ∧
    exec (.ttWmc d k) s = .next { u with tt := { u.tt with ttCr := { u.tt.ttCr with ch1 := d } } } ∧
    (s.tt.ttCr.ch1.getLsbD 0 = true →
      exec (.ttWcr d k) s = .next { u with tt := { u.tt with ttCr := { u.tt.ttCr with ch0 := d } } }) ∧
    (s.tt.ttCr.ch1.getLsbD 0 = false →
      exec (.ttWcr d k) s = .next { u with tt := { u.tt with ttCr := { u.tt.ttCr with ch2 := d } } })

/-- The three MSB offsets write the one shared latch and nothing else, after the flush (43 R133). -/
def Obligations.MsbWritesTheSharedLatch : Prop :=
  ∀ (s : State) (d : Byte) (k : BitVec 32), ∃ u, exec (.render k) s = .next u ∧
    exec (.ttWmsb2 d k) s = .next { u with tt := { u.tt with ttMsb := d } } ∧
    exec (.ttWmsb4 d k) s = .next { u with tt := { u.tt with ttMsb := d } } ∧
    exec (.ttWmsb6 d k) s = .next { u with tt := { u.tt with ttMsb := d } }

/-- A commit writes the count `tt_msb * 256 + data` and its step, keeps the latch and the phase, and enables
the channel exactly when its control bit 7 is set and the count is not 0 (43 R134, R136; decisions D4, D11). -/
def Obligations.ToneCommitSetsCountAndStep : Prop :=
  ∀ p ∈ toneCommits, ∀ (s : State) (d : Byte) (k : BitVec 32),
    ∃ u t, exec (.render k) s = .next u ∧ exec (p.1 d k) s = .next t ∧
      (t.tt.ttCount.get p.2).toNat = s.tt.ttMsb.toNat * 256 + d.toNat ∧
      t.tt.ttStep.get p.2 = freqStep s.cfg (t.tt.ttCount.get p.2) ∧
      (toneEnabled t p.2 = true ↔
        (s.tt.ttCr.get p.2).getLsbD 7 = true ∧ s.tt.ttMsb.toNat * 256 + d.toNat ≠ 0) ∧
      t = { u with
        tt := { u.tt with
          ttCount := u.tt.ttCount.set p.2 (t.tt.ttCount.get p.2)
          ttStep := u.tt.ttStep.set p.2 (t.tt.ttStep.get p.2) } }

/-- `tt_enabled` and `tt_noisy` as functions of the control byte and the count (10_state R22). -/
def Obligations.ToneEnabledAndNoisyFollowRegisters : Prop :=
  ∀ (s : State) (ch : Chan),
    ((toneChannel s ch).enabled = true ↔
      (s.tt.ttCr.get ch).getLsbD 7 = true ∧ s.tt.ttCount.get ch ≠ 0#16) ∧
    ((toneChannel s ch).noisy = true ↔ (s.tt.ttCr.get ch).getLsbD 1 = false)

/-- A control write and a count commit give the same state in either order (43 R135, derived there). -/
def Obligations.ToneControlAndCountWritesCommute : Prop :=
  ∀ p ∈ toneCommits, ∀ (s : State) (d e : Byte),
    runOps [.ttWmc e 0#32, p.1 d 0#32] s = runOps [p.1 d 0#32, .ttWmc e 0#32] s ∧
    runOps [.ttWcr e 0#32, p.1 d 0#32] s = runOps [p.1 d 0#32, .ttWcr e 0#32] s

/-- The pseudo-operations do what they are for: `TT.SETCOUNT` and, from toggle 0, `MT.SETCOUNT` commit the
count and its step; `TT.SETCR` writes the channel's control byte and, for channels 0 and 2, only bit 0 of
`tt_cr[1]` beside it (30 R73; 43 R131 to R134; 44 R151; decisions D1, D4, D15). That the shared control port
reaches channels 0 and 2 by bit 0 of `tt_cr[1]` is what the spec takes from general knowledge (G1; log 18). -/
def Obligations.PseudoOperationsReachTheirTarget : Prop :=
  (∀ (ch : Chan) (v : Count) (s : State), runLine (.ttSetCount ch v) s = some (.next
    { s with
      tt := { s.tt with
        ttMsb := BitVec.ofNat 8 (v.toNat / 256)
        ttCount := s.tt.ttCount.set ch v
        ttStep := s.tt.ttStep.set ch (freqStep s.cfg v) } })) ∧
  (∀ (ch : Chan) (v : Count) (s : State), s.mt.mtToggle.get ch = false →
    runLine (.mtSetCount ch v) s = some (.next
      { s with
        mt := { s.mt with
          mtLow := s.mt.mtLow.set ch (BitVec.ofNat 8 v.toNat)
          mtCount := s.mt.mtCount.set ch v
          mtStep := s.mt.mtStep.set ch (freqStep s.cfg v) } })) ∧
  (∀ (v : Byte) (s : State),
    runLine (.ttSetCr .ch0 v) s = some (.next
      { s with tt := { s.tt with ttCr := ⟨v, s.tt.ttCr.ch1 ||| 0x01#8, s.tt.ttCr.ch2⟩ } }) ∧
    runLine (.ttSetCr .ch1 v) s = some (.next
      { s with tt := { s.tt with ttCr := ⟨s.tt.ttCr.ch0, v, s.tt.ttCr.ch2⟩ } }) ∧
    runLine (.ttSetCr .ch2 v) s = some (.next
      { s with tt := { s.tt with ttCr := ⟨s.tt.ttCr.ch0, s.tt.ttCr.ch1 &&& 0xFE#8, v⟩ } }))

/-! ### Music timer -/

/-- A count write with the toggle at 0 stores the low byte and flips the toggle; with the toggle at 1 it
commits `data * 256 + mt_low` and its step and flips it back; nothing else changes after the flush (44 R151,
R154; decisions D4, D11, D15). -/
def Obligations.MusicCountWritesAlternate : Prop :=
  ∀ p ∈ musicCounts, ∀ (s : State) (d : Byte) (k : BitVec 32),
    ∃ u, exec (.render k) s = .next u ∧
      (s.mt.mtToggle.get p.2 = false → exec (p.1 d k) s = .next
        { u with
          mt := { u.mt with
            mtLow := u.mt.mtLow.set p.2 d
            mtToggle := u.mt.mtToggle.set p.2 true } }) ∧
      (s.mt.mtToggle.get p.2 = true → ∃ count : Count,
        count.toNat = d.toNat * 256 + (s.mt.mtLow.get p.2).toNat ∧ exec (p.1 d k) s = .next
          { u with
            mt := { u.mt with
              mtCount := u.mt.mtCount.set p.2 count
              mtStep := u.mt.mtStep.set p.2 (freqStep s.cfg count)
              mtToggle := u.mt.mtToggle.set p.2 false } })

/-- From toggle 0, any number of pairs of count writes leaves the toggle at 0 and the count of the last
pair, low byte first; one write more leaves the toggle at 1 and the count as it was (44 R152, derived
there). -/
def Obligations.MusicCountIsTheLastPair : Prop :=
  ∀ p ∈ musicCounts, ∀ (s : State) (pairs : List (Byte × Byte)), s.mt.mtToggle.get p.2 = false →
    ∃ t, runOps (pairs.flatMap fun q => [p.1 q.1 0#32, p.1 q.2 0#32]) s = .next t ∧
      t.mt.mtToggle.get p.2 = false ∧
      (t.mt.mtCount.get p.2).toNat =
        (match pairs.getLast? with
          | some q => q.2.toNat * 256 + q.1.toNat
          | none => (s.mt.mtCount.get p.2).toNat) ∧
      ∀ d : Byte, ∃ u, exec (p.1 d 0#32) t = .next u ∧ u.mt.mtToggle.get p.2 = true ∧
        u.mt.mtCount = t.mt.mtCount ∧ u.mt.mtLow.get p.2 = d

/-- The gate port sets the enable of the channel in bits 7:6 to whether the gate field is non-zero, changes
nothing for index 3, and nothing else after the flush; the field is bits 3:1 by default (44 R153; decision
D14, which the spec takes from general knowledge, log 18). -/
def Obligations.GateWritesOneEnable : Prop :=
  ∀ (s : State) (d : Byte) (k : BitVec 32), ∃ (u : State) (f : BitVec 3), exec (.render k) s = .next u ∧
    f = d.extractLsb' s.cfg.mtGateLsb 3 ∧
    (s.cfg.mtGateLsb = 1 → f.toNat = d.toNat / 2 % 8) ∧
    (d.toNat / 64 = 0 → exec (.mtWgate d k) s = .next
      { u with mt := { u.mt with mtEnabled := { u.mt.mtEnabled with ch0 := decide (f ≠ 0#3) } } }) ∧
    (d.toNat / 64 = 1 → exec (.mtWgate d k) s = .next
      { u with mt := { u.mt with mtEnabled := { u.mt.mtEnabled with ch1 := decide (f ≠ 0#3) } } }) ∧
    (d.toNat / 64 = 2 → exec (.mtWgate d k) s = .next
      { u with mt := { u.mt with mtEnabled := { u.mt.mtEnabled with ch2 := decide (f ≠ 0#3) } } }) ∧
    (d.toNat / 64 = 3 → exec (.mtWgate d k) s = .next u)

/-! ### Sfx ports -/

/-- The control port stores its byte, after the flush, and changes nothing else (45 R176). -/
def Obligations.SfxControlWriteStoresTheByte : Prop :=
  ∀ (s : State) (d : Byte) (k : BitVec 32), ∃ u, exec (.render k) s = .next u ∧
    exec (.sfxWctl d k) s = .next { u with sfx := { u.sfx with sfxControl := d } }

/-- A volume port stores the 3-bit field, bits 2:0 by default, after the flush, and the channel's volume is
0, 780, 1560, 2340, 3120, 3900, 4680 or 5461 (45 R177, 10_state R25; decision D16). -/
def Obligations.VolumeWriteStoresTheField : Prop :=
  ∀ p ∈ volumeWrites, ∀ (s : State) (d : Byte) (k : BitVec 32),
    ∃ u t, exec (.render k) s = .next u ∧ exec (p.1 d k) s = .next t ∧
      t = { u with sfx := { u.sfx with sfxVol := u.sfx.sfxVol.set p.2 (d.extractLsb' s.cfg.volLsb 3) } } ∧
      (s.cfg.volLsb = 0 → (t.sfx.sfxVol.get p.2).toNat = d.toNat % 8) ∧
      (s.cfg.baseVolume = 5461 →
        some (toneVolume t p.2).toNat =
          [0, 780, 1560, 2340, 3120, 3900, 4680, 5461][(t.sfx.sfxVol.get p.2).toNat]?)

/-! ### Rendering -/

/-- `RENDER n` writes the phases of enabled channels, the cursor and `n` samples at the end of the stream, and
takes draws for noisy channels; nothing else changes (45 R165, R166, R172; 10_state R26). A channel beyond
`N_TONE` or `N_MUSIC` (00_scope R5) is not walked (log 14); the counts of draws are the model's (log 6). -/
def Obligations.RenderWritesOnlyPhasesAndStream : Prop :=
  ∀ (s : State) (n : BitVec 32), ∃ (t : State) (new : List Sample), exec (.render n) s = .next t ∧
    new.length = n.toNat ∧
    t = { s with
      tt := { s.tt with ttPhase := t.tt.ttPhase }
      mt := { s.mt with mtPhase := t.mt.mtPhase }
      draws := t.draws
      samples := s.samples ++ new
      cursor := s.cursor + n.toNat } ∧
    (∀ ch, toneEnabled s ch = false ∨ s.cfg.nTone ≤ ch.index → t.tt.ttPhase.get ch = s.tt.ttPhase.get ch) ∧
    (∀ ch, s.mt.mtEnabled.get ch = false ∨ s.cfg.nMusic ≤ ch.index →
      t.mt.mtPhase.get ch = s.mt.mtPhase.get ch) ∧
    (∀ ch, t.draws.get ch =
      if toneAudible s ch && toneNoisy s ch then s.draws.get ch + n.toNat else s.draws.get ch)

/-- `RENDER 0` emits nothing and changes nothing, a muted channel 0 included (45 R174). -/
def Obligations.RenderZeroIsANoOp : Prop :=
  ∀ s : State, exec (.render 0#32) s = .next s

/-- A pure tone channel, sample by sample (45 R168): the step is added, then bit 24 of the new phase decides
whether the volume is added to this sample; then the rest of the buffer from the new phase. -/
def Obligations.PureToneSampleBySample : Prop :=
  ∀ (draw : DrawSource) (nf : Nat × Nat) (s : State) (ch : Chan) (b : Sample) (bs : List Sample),
    s.cfg.toneBit = 24 → toneAudible s ch = true → toneNoisy s ch = false →
    ∃ (p : Phase) (r : State × List Sample), p = s.tt.ttPhase.get ch + s.tt.ttStep.get ch ∧
      r = renderTone draw nf ch (setTonePhase ch p s, bs) ∧
      renderTone draw nf ch (s, []) = (s, []) ∧
      renderTone draw nf ch (s, b :: bs) =
        (r.1, (if p.getLsbD 24 then b + toneVolume s ch else b) :: r.2)

/-- A noisy tone channel, sample by sample (45 R170): two fresh draws, `AvgStep *32 (r1 + r2)` added, then bit
24 of the new phase decides; the channel's own step is not used. Derived: which draws are fresh, the `2j`-th
and the `2j+1`-th of the channel's own sequence with `j` its count of samples drawn, each reduced to
`0..RAND_MAX15`, is the model's numbering (log 6). -/
def Obligations.NoisyToneSampleBySample : Prop :=
  ∀ (draw : DrawSource) (nf : Nat × Nat) (s : State) (ch : Chan) (b : Sample) (bs : List Sample),
    s.cfg.toneBit = 24 → toneAudible s ch = true → toneNoisy s ch = true →
    ∃ (r1 r2 : Nat) (p : Phase) (r : State × List Sample),
      r1 = draw ch (2 * s.draws.get ch) % (s.cfg.randMax15 + 1) ∧
      r2 = draw ch (2 * s.draws.get ch + 1) % (s.cfg.randMax15 + 1) ∧
      p = s.tt.ttPhase.get ch + avgStep s.cfg nf (s.tt.ttCount.get ch) * BitVec.ofNat 32 (r1 + r2) ∧
      r = renderTone draw nf ch
        ({ setTonePhase ch p s with draws := s.draws.set ch (s.draws.get ch + 1) }, bs) ∧
      renderTone draw nf ch (s, []) = (s, []) ∧
      renderTone draw nf ch (s, b :: bs) =
        (r.1, (if p.getLsbD 24 then b + toneVolume s ch else b) :: r.2)

/-- An enabled music channel, sample by sample (45 R171): the step is added, then bit 23 of the new phase
decides whether `BASE_VOLUME` is added. -/
def Obligations.MusicSampleBySample : Prop :=
  ∀ (s : State) (ch : Chan) (b : Sample) (bs : List Sample),
    s.cfg.musicBit = 23 → s.mt.mtEnabled.get ch = true →
    ∃ (p : Phase) (r : State × List Sample), p = s.mt.mtPhase.get ch + s.mt.mtStep.get ch ∧
      r = renderMusic ch (setMusicPhase ch p s, bs) ∧
      renderMusic ch (s, []) = (s, []) ∧
      renderMusic ch (s, b :: bs) =
        (r.1, (if p.getLsbD 23 then b + BitVec.ofNat 16 s.cfg.baseVolume else b) :: r.2)

/-- A muted channel 0 that is enabled advances by `n *32 tt_step[0]`, pure or noisy, takes no draws, and adds
nothing: the samples are those of the same state with channel 0 disabled (45 R169; decision D10). Channel 0
exists, which `N_TONE = 3` gives. -/
def Obligations.MutedChannelZeroRunsSilently : Prop :=
  ∀ (s : State) (n : BitVec 32), 0 < s.cfg.nTone → toneEnabled s .ch0 = true → s.sfx.sfxControl.getLsbD 1 = true →
    ∃ t u, exec (.render n) s = .next t ∧
      exec (.render n) (setToneControl .ch0 0#8 s) = .next u ∧
      t.tt.ttPhase.ch0 = s.tt.ttPhase.ch0 + n * s.tt.ttStep.ch0 ∧
      t.draws.ch0 = s.draws.ch0 ∧ t.samples = u.samples

/-- A disabled channel is not walked, and with all six disabled `RENDER n` emits `n` zeros and changes only
the cursor (45 R172). -/
def Obligations.DisabledChannelsAreNotWalked : Prop :=
  (∀ (draw : DrawSource) (nf : Nat × Nat) (ch : Chan) (x : State × List Sample),
    toneEnabled x.1 ch = false → renderTone draw nf ch x = x) ∧
  (∀ (ch : Chan) (x : State × List Sample), x.1.mt.mtEnabled.get ch = false → renderMusic ch x = x) ∧
  (∀ (s : State) (n : BitVec 32), allDisabled s → exec (.render n) s = .next
    { s with samples := s.samples ++ List.replicate n.toNat 0#16, cursor := s.cursor + n.toNat })

/-- Sample `i` of a rendering is the sum of the volumes of the channels that are high in it, and the phases
end where `n` samples leave them (45 R165 to R171; R167 derived there; the mute is decision D10; which draws a
noisy channel's increments take is the model's numbering, log 6). -/
def Obligations.RenderEmitsTheSumOfHighChannels : Prop :=
  ∀ (s : State) (n : BitVec 32), ∃ t, exec (.render n) s = .next t ∧
    t.samples = s.samples ++
      (List.range n.toNat).map (fun i => BitVec.ofNat 16 (sampleAt Config.draw s i)) ∧
    (∀ ch, toneAudible s ch = true → t.tt.ttPhase.get ch = tonePhaseAfter Config.draw s ch n.toNat) ∧
    (∀ ch, musicAudible s ch = true → t.mt.mtPhase.get ch = musicPhaseAfter s ch n.toNat)

/-- A sample never overflows: with the stated constants the exact sum lies in `0..32766`, whatever the draws,
so every sample emitted is its exact, non-negative value (45 R175, derived there; decision D16). -/
def Obligations.SamplesNeverOverflow : Prop :=
  ∀ (s : State) (n : BitVec 32), s.cfg.Structural →
    (∀ (draw : DrawSource) (i : Nat), sampleAt draw s i ≤ 32766) ∧
    ∃ (t : State) (new : List Sample), exec (.render n) s = .next t ∧ t.samples = s.samples ++ new ∧
      new.map BitVec.toInt = (List.range n.toNat).map fun i => (sampleAt Config.draw s i : Int)

/-- `RENDER a ; RENDER b` equals `RENDER (a + b)`, in samples, state and draws (45 R173, derived there; the draws
of both sides are the same by the model's numbering per channel in sample order, log 6). -/
def Obligations.RenderSplitsAnywhere : Prop :=
  ∀ (s : State) (a b : BitVec 32), a.toNat + b.toNat < 2 ^ 32 →
    runOps [.render a, .render b] s = exec (.render (a + b)) s

/-- With no noisy channel that can sound, no draw is taken and the rendering does not depend on the random
source (45 R178). -/
def Obligations.RenderWithoutNoiseIgnoresDraws : Prop :=
  ∀ (s : State) (n : Nat), (∀ ch, toneAudible s ch = true → toneNoisy s ch = false) →
    ∀ draw draw' : DrawSource, render draw n s = render draw' n s ∧ (render draw n s).draws = s.draws

/-! ### The bus -/

/-- Every write first renders its `k` samples with the old state and then acts as the same write with
`k = 0` (46 R186, R187, the second derived there). -/
def Obligations.WriteFlushesThenActs : Prop :=
  ∀ (i : Instr) (s : State), i.isWrite = true →
    ∃ u, exec (.render i.rendered) s = .next u ∧ exec i s = exec (i.withFlush 0#32) u

/-- Switching a music channel off `k` samples into a rendering takes effect exactly there: the first `k`
samples contain the channel, the following ones do not, and no other channel changes. Applied too early it
gives another stream whenever the channel sounds in one of the first `k` samples, and applied at the buffer
boundary whenever it sounds in one of the following `m` (46 R193, derived there). -/
def Obligations.GateOffIsSampleAccurate : Prop :=
  ∀ (s : State) (ch : Chan) (d : Byte) (k m : BitVec 32), gateChannel d = some ch →
    gateField s.cfg d = 0#3 → k.toNat + m.toNat < 2 ^ 32 →
    ∃ t1 t2 t3,
      runOps [.mtWgate d k, .render m] s = .next t1 ∧
      runOps [.mtWgate d 0#32, .render (k + m)] s = .next t2 ∧
      runOps [.render (k + m), .mtWgate d 0#32] s = .next t3 ∧
      t1.samples = s.samples ++ (List.range (k.toNat + m.toNat)).map (fun i => BitVec.ofNat 16
        (sampleAt Config.draw s i - if i < k.toNat then 0 else musicShare s ch i)) ∧
      t2.samples = s.samples ++ (List.range (k.toNat + m.toNat)).map (fun i => BitVec.ofNat 16
        (sampleAt Config.draw s i - musicShare s ch i)) ∧
      t3.samples = s.samples ++ (List.range (k.toNat + m.toNat)).map (fun i => BitVec.ofNat 16
        (sampleAt Config.draw s i)) ∧
      ((∃ i < k.toNat, musicShare s ch i ≠ 0) → t1.samples ≠ t2.samples) ∧
      ((∃ i, k.toNat ≤ i ∧ i < k.toNat + m.toNat ∧ musicShare s ch i ≠ 0) → t1.samples ≠ t3.samples)

/-- Every read returns a byte, renders nothing and changes no register but the two interrupt bits: the flag
only at a flag read, the line only at a flag or a counter read (46 R185, 20 R47; decision D24). -/
def Obligations.ReadsChangeOnlyInterruptBits : Prop :=
  ∀ (i : Instr) (s : State), i.isRead = true →
    ∃ (t : State) (b : Byte), exec i s = .next t ∧
      t = { s with
        readData := some b
        openReads := t.openReads
        irqCalls := t.irqCalls
        it := { s.it with irqFlag := t.it.irqFlag, irqLine := t.it.irqLine } } ∧
      ((∀ al, i ≠ .itRflg al) → t.it.irqFlag = s.it.irqFlag) ∧
      ((∀ al, i ≠ .itRflg al) → (∀ al, i ≠ .itRcnt al) →
        t.it.irqLine = s.it.irqLine ∧ t.irqCalls = s.irqCalls)

/-- An access at an offset the map does not list: a write only flushes, a read returns some byte, its own at
each unit, offset and state, and changes nothing (46 R188, R189; decision D23, log 7). -/
def Obligations.UnlistedOffsetsHaveNoEffect : Prop :=
  (∀ (s : State) (off : BitVec 5) (d : Byte) (k : BitVec 32), exec (.itWign off d k) s = exec (.render k) s) ∧
  (∀ (s : State) (off : BitVec 5), ∃ b,
    exec (.itRund off) s = .next { s with readData := some b, openReads := s.openReads + 1 }) ∧
  (∀ (s : State) (off : BitVec 3), ∃ b,
    exec (.ttRund off) s = .next { s with readData := some b, openReads := s.openReads + 1 }) ∧
  (∀ (s : State) (off : BitVec 2), ∃ b,
    exec (.mtRund off) s = .next { s with readData := some b, openReads := s.openReads + 1 }) ∧
  (∀ (s : State) (off : BitVec 2), ∃ b,
    exec (.sfxRund off) s = .next { s with readData := some b, openReads := s.openReads + 1 })

/-! ### Frames over all operations -/

/-- A phase changes only by rendering and by reset: an operation that renders nothing and is not `RESET`
leaves all six (10_state R26; decision D11). The cursor and the stream move by exactly the samples rendered
(10_state R27, 45 R166). -/
def Obligations.OnlyRenderingMovesPhasesAndCursor : Prop :=
  ∀ (i : Instr) (s t : State), exec i s = .next t → i ≠ .reset →
    (i.rendered = 0#32 → t.tt.ttPhase = s.tt.ttPhase ∧ t.mt.mtPhase = s.mt.mtPhase ∧ t.draws = s.draws) ∧
    t.cursor = s.cursor + i.rendered.toNat ∧
    ∃ new, t.samples = s.samples ++ new ∧ new.length = i.rendered.toNat

/-- The units keep apart: a bus operation of another unit and `RENDER` leave the interval timer and its
output alone (60 R202); a bus operation of one audio unit leaves the registers of the other two alone;
`IT` bus operations and `IT.ADV` leave the registers of all three (20 R41). -/
def Obligations.UnitsKeepApart : Prop :=
  ∀ (i : Instr) (s t : State), exec i s = .next t → i ≠ .reset →
    ((i.fields.unitSel ≠ 0#2 ∨ ∃ n, i = .render n) → t.it = s.it ∧ t.irqCalls = s.irqCalls) ∧
    (i.fields.unitSel ≠ 1#2 →
      t.tt.ttCr = s.tt.ttCr ∧ t.tt.ttMsb = s.tt.ttMsb ∧ t.tt.ttCount = s.tt.ttCount ∧
      t.tt.ttStep = s.tt.ttStep) ∧
    (i.fields.unitSel ≠ 2#2 →
      t.mt.mtToggle = s.mt.mtToggle ∧ t.mt.mtLow = s.mt.mtLow ∧ t.mt.mtCount = s.mt.mtCount ∧
      t.mt.mtStep = s.mt.mtStep ∧ t.mt.mtEnabled = s.mt.mtEnabled) ∧
    (i.fields.unitSel ≠ 3#2 → t.sfx = s.sfx)

/-- The parameters are constant between two resets, and no operation writes the environment's queue or the
parameters it will supply (00_scope R5, R9; log 1, log 5). -/
def Obligations.ParametersChangeOnlyAtReset : Prop :=
  ∀ (i : Instr) (s t : State), exec i s = .next t →
    (i ≠ .reset → t.cfg = s.cfg) ∧ (i = .reset → t.cfg = s.cfgIn) ∧ t.cfgIn = s.cfgIn ∧ t.trace = s.trace
end

