-- ==== Sys2Proof/Laws/State.lean ====
section
/-! SUPPORT. Laws/State.lean: what each named update of the state, of the timer and of a triple leaves in
each field, so that no later proof unfolds a record update. -/

namespace Sys2Proof

@[simp] theorem Trio.get_set_self {α : Type} (x : Trio α) (ch : Chan) (v : α) : (x.set ch v).get ch = v := by
  cases ch <;> rfl

theorem Trio.get_set_of_ne {α : Type} (x : Trio α) {ch ch' : Chan} (v : α) (h : ch' ≠ ch) :
    (x.set ch v).get ch' = x.get ch' := by
  cases ch <;> cases ch' <;> first | rfl | exact absurd rfl h

theorem Trio.get_set {α : Type} (x : Trio α) (ch ch' : Chan) (v : α) :
    (x.set ch v).get ch' = if ch' = ch then v else x.get ch' := by
  cases ch <;> cases ch' <;> rfl

@[simp] theorem Trio.get_fill {α : Type} (v : α) (ch : Chan) : (Trio.fill v).get ch = v := by
  cases ch <;> rfl

@[simp] theorem Trio.get_ch0 {α : Type} (x : Trio α) : x.get .ch0 = x.ch0 := rfl
@[simp] theorem Trio.get_ch1 {α : Type} (x : Trio α) : x.get .ch1 = x.ch1 := rfl
@[simp] theorem Trio.get_ch2 {α : Type} (x : Trio α) : x.get .ch2 = x.ch2 := rfl

theorem Trio.ext_get {α : Type} {x y : Trio α} (h : ∀ ch, x.get ch = y.get ch) : x = y := by
  cases x; cases y
  simpa using And.intro (h .ch0) (And.intro (h .ch1) (h .ch2))

end Sys2Proof

namespace Sys2Proof.Machine

/-! ### Updates of the state -/

@[simp] theorem setTimer_cfg (x : IntervalTimer) (s : State) :
    (setTimer x s).cfg = s.cfg := rfl
@[simp] theorem setTimer_it (x : IntervalTimer) (s : State) :
    (setTimer x s).it = x := rfl
@[simp] theorem setTimer_tt (x : IntervalTimer) (s : State) :
    (setTimer x s).tt = s.tt := rfl
@[simp] theorem setTimer_mt (x : IntervalTimer) (s : State) :
    (setTimer x s).mt = s.mt := rfl
@[simp] theorem setTimer_sfx (x : IntervalTimer) (s : State) :
    (setTimer x s).sfx = s.sfx := rfl
@[simp] theorem setTimer_cursor (x : IntervalTimer) (s : State) :
    (setTimer x s).cursor = s.cursor := rfl
@[simp] theorem setTimer_samples (x : IntervalTimer) (s : State) :
    (setTimer x s).samples = s.samples := rfl
@[simp] theorem setTimer_readData (x : IntervalTimer) (s : State) :
    (setTimer x s).readData = s.readData := rfl
@[simp] theorem setTimer_irqCalls (x : IntervalTimer) (s : State) :
    (setTimer x s).irqCalls = callsAfter s.irqCalls s.it.irqLine x.irqLine := rfl
@[simp] theorem setTimer_trace (x : IntervalTimer) (s : State) :
    (setTimer x s).trace = s.trace := rfl
@[simp] theorem setTimer_cfgIn (x : IntervalTimer) (s : State) :
    (setTimer x s).cfgIn = s.cfgIn := rfl
@[simp] theorem setTimer_draws (x : IntervalTimer) (s : State) :
    (setTimer x s).draws = s.draws := rfl
@[simp] theorem setTimer_openReads (x : IntervalTimer) (s : State) :
    (setTimer x s).openReads = s.openReads := rfl

@[simp] theorem setTonePhase_cfg (ch : Chan) (p : Phase) (s : State) :
    (setTonePhase ch p s).cfg = s.cfg := rfl
@[simp] theorem setTonePhase_it (ch : Chan) (p : Phase) (s : State) :
    (setTonePhase ch p s).it = s.it := rfl
@[simp] theorem setTonePhase_tt (ch : Chan) (p : Phase) (s : State) :
    (setTonePhase ch p s).tt = { s.tt with ttPhase := s.tt.ttPhase.set ch p } := rfl
@[simp] theorem setTonePhase_mt (ch : Chan) (p : Phase) (s : State) :
    (setTonePhase ch p s).mt = s.mt := rfl
@[simp] theorem setTonePhase_sfx (ch : Chan) (p : Phase) (s : State) :
    (setTonePhase ch p s).sfx = s.sfx := rfl
@[simp] theorem setTonePhase_cursor (ch : Chan) (p : Phase) (s : State) :
    (setTonePhase ch p s).cursor = s.cursor := rfl
@[simp] theorem setTonePhase_samples (ch : Chan) (p : Phase) (s : State) :
    (setTonePhase ch p s).samples = s.samples := rfl
@[simp] theorem setTonePhase_readData (ch : Chan) (p : Phase) (s : State) :
    (setTonePhase ch p s).readData = s.readData := rfl
@[simp] theorem setTonePhase_irqCalls (ch : Chan) (p : Phase) (s : State) :
    (setTonePhase ch p s).irqCalls = s.irqCalls := rfl
@[simp] theorem setTonePhase_trace (ch : Chan) (p : Phase) (s : State) :
    (setTonePhase ch p s).trace = s.trace := rfl
@[simp] theorem setTonePhase_cfgIn (ch : Chan) (p : Phase) (s : State) :
    (setTonePhase ch p s).cfgIn = s.cfgIn := rfl
@[simp] theorem setTonePhase_draws (ch : Chan) (p : Phase) (s : State) :
    (setTonePhase ch p s).draws = s.draws := rfl
@[simp] theorem setTonePhase_openReads (ch : Chan) (p : Phase) (s : State) :
    (setTonePhase ch p s).openReads = s.openReads := rfl

@[simp] theorem setMusicPhase_cfg (ch : Chan) (p : Phase) (s : State) :
    (setMusicPhase ch p s).cfg = s.cfg := rfl
@[simp] theorem setMusicPhase_it (ch : Chan) (p : Phase) (s : State) :
    (setMusicPhase ch p s).it = s.it := rfl
@[simp] theorem setMusicPhase_tt (ch : Chan) (p : Phase) (s : State) :
    (setMusicPhase ch p s).tt = s.tt := rfl
@[simp] theorem setMusicPhase_mt (ch : Chan) (p : Phase) (s : State) :
    (setMusicPhase ch p s).mt = { s.mt with mtPhase := s.mt.mtPhase.set ch p } := rfl
@[simp] theorem setMusicPhase_sfx (ch : Chan) (p : Phase) (s : State) :
    (setMusicPhase ch p s).sfx = s.sfx := rfl
@[simp] theorem setMusicPhase_cursor (ch : Chan) (p : Phase) (s : State) :
    (setMusicPhase ch p s).cursor = s.cursor := rfl
@[simp] theorem setMusicPhase_samples (ch : Chan) (p : Phase) (s : State) :
    (setMusicPhase ch p s).samples = s.samples := rfl
@[simp] theorem setMusicPhase_readData (ch : Chan) (p : Phase) (s : State) :
    (setMusicPhase ch p s).readData = s.readData := rfl
@[simp] theorem setMusicPhase_irqCalls (ch : Chan) (p : Phase) (s : State) :
    (setMusicPhase ch p s).irqCalls = s.irqCalls := rfl
@[simp] theorem setMusicPhase_trace (ch : Chan) (p : Phase) (s : State) :
    (setMusicPhase ch p s).trace = s.trace := rfl
@[simp] theorem setMusicPhase_cfgIn (ch : Chan) (p : Phase) (s : State) :
    (setMusicPhase ch p s).cfgIn = s.cfgIn := rfl
@[simp] theorem setMusicPhase_draws (ch : Chan) (p : Phase) (s : State) :
    (setMusicPhase ch p s).draws = s.draws := rfl
@[simp] theorem setMusicPhase_openReads (ch : Chan) (p : Phase) (s : State) :
    (setMusicPhase ch p s).openReads = s.openReads := rfl

@[simp] theorem setToneControl_cfg (ch : Chan) (d : Byte) (s : State) :
    (setToneControl ch d s).cfg = s.cfg := rfl
@[simp] theorem setToneControl_it (ch : Chan) (d : Byte) (s : State) :
    (setToneControl ch d s).it = s.it := rfl
@[simp] theorem setToneControl_tt (ch : Chan) (d : Byte) (s : State) :
    (setToneControl ch d s).tt = { s.tt with ttCr := s.tt.ttCr.set ch d } := rfl
@[simp] theorem setToneControl_mt (ch : Chan) (d : Byte) (s : State) :
    (setToneControl ch d s).mt = s.mt := rfl
@[simp] theorem setToneControl_sfx (ch : Chan) (d : Byte) (s : State) :
    (setToneControl ch d s).sfx = s.sfx := rfl
@[simp] theorem setToneControl_cursor (ch : Chan) (d : Byte) (s : State) :
    (setToneControl ch d s).cursor = s.cursor := rfl
@[simp] theorem setToneControl_samples (ch : Chan) (d : Byte) (s : State) :
    (setToneControl ch d s).samples = s.samples := rfl
@[simp] theorem setToneControl_readData (ch : Chan) (d : Byte) (s : State) :
    (setToneControl ch d s).readData = s.readData := rfl
@[simp] theorem setToneControl_irqCalls (ch : Chan) (d : Byte) (s : State) :
    (setToneControl ch d s).irqCalls = s.irqCalls := rfl
@[simp] theorem setToneControl_trace (ch : Chan) (d : Byte) (s : State) :
    (setToneControl ch d s).trace = s.trace := rfl
@[simp] theorem setToneControl_cfgIn (ch : Chan) (d : Byte) (s : State) :
    (setToneControl ch d s).cfgIn = s.cfgIn := rfl
@[simp] theorem setToneControl_draws (ch : Chan) (d : Byte) (s : State) :
    (setToneControl ch d s).draws = s.draws := rfl
@[simp] theorem setToneControl_openReads (ch : Chan) (d : Byte) (s : State) :
    (setToneControl ch d s).openReads = s.openReads := rfl

@[simp] theorem latchMsb_cfg (d : Byte) (s : State) :
    (latchMsb d s).cfg = s.cfg := rfl
@[simp] theorem latchMsb_it (d : Byte) (s : State) :
    (latchMsb d s).it = s.it := rfl
@[simp] theorem latchMsb_tt (d : Byte) (s : State) :
    (latchMsb d s).tt = { s.tt with ttMsb := d } := rfl
@[simp] theorem latchMsb_mt (d : Byte) (s : State) :
    (latchMsb d s).mt = s.mt := rfl
@[simp] theorem latchMsb_sfx (d : Byte) (s : State) :
    (latchMsb d s).sfx = s.sfx := rfl
@[simp] theorem latchMsb_cursor (d : Byte) (s : State) :
    (latchMsb d s).cursor = s.cursor := rfl
@[simp] theorem latchMsb_samples (d : Byte) (s : State) :
    (latchMsb d s).samples = s.samples := rfl
@[simp] theorem latchMsb_readData (d : Byte) (s : State) :
    (latchMsb d s).readData = s.readData := rfl
@[simp] theorem latchMsb_irqCalls (d : Byte) (s : State) :
    (latchMsb d s).irqCalls = s.irqCalls := rfl
@[simp] theorem latchMsb_trace (d : Byte) (s : State) :
    (latchMsb d s).trace = s.trace := rfl
@[simp] theorem latchMsb_cfgIn (d : Byte) (s : State) :
    (latchMsb d s).cfgIn = s.cfgIn := rfl
@[simp] theorem latchMsb_draws (d : Byte) (s : State) :
    (latchMsb d s).draws = s.draws := rfl
@[simp] theorem latchMsb_openReads (d : Byte) (s : State) :
    (latchMsb d s).openReads = s.openReads := rfl

@[simp] theorem commitTone_cfg (ch : Chan) (d : Byte) (s : State) :
    (commitTone ch d s).cfg = s.cfg := rfl
@[simp] theorem commitTone_it (ch : Chan) (d : Byte) (s : State) :
    (commitTone ch d s).it = s.it := rfl
@[simp] theorem commitTone_tt (ch : Chan) (d : Byte) (s : State) :
    (commitTone ch d s).tt = { s.tt with ttCount := s.tt.ttCount.set ch (countOf s.tt.ttMsb d), ttStep := s.tt.ttStep.set ch (freqStep s.cfg (countOf s.tt.ttMsb d)) } := rfl
@[simp] theorem commitTone_mt (ch : Chan) (d : Byte) (s : State) :
    (commitTone ch d s).mt = s.mt := rfl
@[simp] theorem commitTone_sfx (ch : Chan) (d : Byte) (s : State) :
    (commitTone ch d s).sfx = s.sfx := rfl
@[simp] theorem commitTone_cursor (ch : Chan) (d : Byte) (s : State) :
    (commitTone ch d s).cursor = s.cursor := rfl
@[simp] theorem commitTone_samples (ch : Chan) (d : Byte) (s : State) :
    (commitTone ch d s).samples = s.samples := rfl
@[simp] theorem commitTone_readData (ch : Chan) (d : Byte) (s : State) :
    (commitTone ch d s).readData = s.readData := rfl
@[simp] theorem commitTone_irqCalls (ch : Chan) (d : Byte) (s : State) :
    (commitTone ch d s).irqCalls = s.irqCalls := rfl
@[simp] theorem commitTone_trace (ch : Chan) (d : Byte) (s : State) :
    (commitTone ch d s).trace = s.trace := rfl
@[simp] theorem commitTone_cfgIn (ch : Chan) (d : Byte) (s : State) :
    (commitTone ch d s).cfgIn = s.cfgIn := rfl
@[simp] theorem commitTone_draws (ch : Chan) (d : Byte) (s : State) :
    (commitTone ch d s).draws = s.draws := rfl
@[simp] theorem commitTone_openReads (ch : Chan) (d : Byte) (s : State) :
    (commitTone ch d s).openReads = s.openReads := rfl

@[simp] theorem musicLow_cfg (ch : Chan) (d : Byte) (s : State) :
    (musicLow ch d s).cfg = s.cfg := rfl
@[simp] theorem musicLow_it (ch : Chan) (d : Byte) (s : State) :
    (musicLow ch d s).it = s.it := rfl
@[simp] theorem musicLow_tt (ch : Chan) (d : Byte) (s : State) :
    (musicLow ch d s).tt = s.tt := rfl
@[simp] theorem musicLow_mt (ch : Chan) (d : Byte) (s : State) :
    (musicLow ch d s).mt = { s.mt with mtLow := s.mt.mtLow.set ch d, mtToggle := s.mt.mtToggle.set ch true } := rfl
@[simp] theorem musicLow_sfx (ch : Chan) (d : Byte) (s : State) :
    (musicLow ch d s).sfx = s.sfx := rfl
@[simp] theorem musicLow_cursor (ch : Chan) (d : Byte) (s : State) :
    (musicLow ch d s).cursor = s.cursor := rfl
@[simp] theorem musicLow_samples (ch : Chan) (d : Byte) (s : State) :
    (musicLow ch d s).samples = s.samples := rfl
@[simp] theorem musicLow_readData (ch : Chan) (d : Byte) (s : State) :
    (musicLow ch d s).readData = s.readData := rfl
@[simp] theorem musicLow_irqCalls (ch : Chan) (d : Byte) (s : State) :
    (musicLow ch d s).irqCalls = s.irqCalls := rfl
@[simp] theorem musicLow_trace (ch : Chan) (d : Byte) (s : State) :
    (musicLow ch d s).trace = s.trace := rfl
@[simp] theorem musicLow_cfgIn (ch : Chan) (d : Byte) (s : State) :
    (musicLow ch d s).cfgIn = s.cfgIn := rfl
@[simp] theorem musicLow_draws (ch : Chan) (d : Byte) (s : State) :
    (musicLow ch d s).draws = s.draws := rfl
@[simp] theorem musicLow_openReads (ch : Chan) (d : Byte) (s : State) :
    (musicLow ch d s).openReads = s.openReads := rfl

@[simp] theorem musicHigh_cfg (ch : Chan) (d : Byte) (s : State) :
    (musicHigh ch d s).cfg = s.cfg := rfl
@[simp] theorem musicHigh_it (ch : Chan) (d : Byte) (s : State) :
    (musicHigh ch d s).it = s.it := rfl
@[simp] theorem musicHigh_tt (ch : Chan) (d : Byte) (s : State) :
    (musicHigh ch d s).tt = s.tt := rfl
@[simp] theorem musicHigh_mt (ch : Chan) (d : Byte) (s : State) :
    (musicHigh ch d s).mt = { s.mt with mtCount := s.mt.mtCount.set ch (countOf d (s.mt.mtLow.get ch)), mtStep := s.mt.mtStep.set ch (freqStep s.cfg (countOf d (s.mt.mtLow.get ch))), mtToggle := s.mt.mtToggle.set ch false } := rfl
@[simp] theorem musicHigh_sfx (ch : Chan) (d : Byte) (s : State) :
    (musicHigh ch d s).sfx = s.sfx := rfl
@[simp] theorem musicHigh_cursor (ch : Chan) (d : Byte) (s : State) :
    (musicHigh ch d s).cursor = s.cursor := rfl
@[simp] theorem musicHigh_samples (ch : Chan) (d : Byte) (s : State) :
    (musicHigh ch d s).samples = s.samples := rfl
@[simp] theorem musicHigh_readData (ch : Chan) (d : Byte) (s : State) :
    (musicHigh ch d s).readData = s.readData := rfl
@[simp] theorem musicHigh_irqCalls (ch : Chan) (d : Byte) (s : State) :
    (musicHigh ch d s).irqCalls = s.irqCalls := rfl
@[simp] theorem musicHigh_trace (ch : Chan) (d : Byte) (s : State) :
    (musicHigh ch d s).trace = s.trace := rfl
@[simp] theorem musicHigh_cfgIn (ch : Chan) (d : Byte) (s : State) :
    (musicHigh ch d s).cfgIn = s.cfgIn := rfl
@[simp] theorem musicHigh_draws (ch : Chan) (d : Byte) (s : State) :
    (musicHigh ch d s).draws = s.draws := rfl
@[simp] theorem musicHigh_openReads (ch : Chan) (d : Byte) (s : State) :
    (musicHigh ch d s).openReads = s.openReads := rfl

@[simp] theorem setSfxControl_cfg (d : Byte) (s : State) :
    (setSfxControl d s).cfg = s.cfg := rfl
@[simp] theorem setSfxControl_it (d : Byte) (s : State) :
    (setSfxControl d s).it = s.it := rfl
@[simp] theorem setSfxControl_tt (d : Byte) (s : State) :
    (setSfxControl d s).tt = s.tt := rfl
@[simp] theorem setSfxControl_mt (d : Byte) (s : State) :
    (setSfxControl d s).mt = s.mt := rfl
@[simp] theorem setSfxControl_sfx (d : Byte) (s : State) :
    (setSfxControl d s).sfx = { s.sfx with sfxControl := d } := rfl
@[simp] theorem setSfxControl_cursor (d : Byte) (s : State) :
    (setSfxControl d s).cursor = s.cursor := rfl
@[simp] theorem setSfxControl_samples (d : Byte) (s : State) :
    (setSfxControl d s).samples = s.samples := rfl
@[simp] theorem setSfxControl_readData (d : Byte) (s : State) :
    (setSfxControl d s).readData = s.readData := rfl
@[simp] theorem setSfxControl_irqCalls (d : Byte) (s : State) :
    (setSfxControl d s).irqCalls = s.irqCalls := rfl
@[simp] theorem setSfxControl_trace (d : Byte) (s : State) :
    (setSfxControl d s).trace = s.trace := rfl
@[simp] theorem setSfxControl_cfgIn (d : Byte) (s : State) :
    (setSfxControl d s).cfgIn = s.cfgIn := rfl
@[simp] theorem setSfxControl_draws (d : Byte) (s : State) :
    (setSfxControl d s).draws = s.draws := rfl
@[simp] theorem setSfxControl_openReads (d : Byte) (s : State) :
    (setSfxControl d s).openReads = s.openReads := rfl

@[simp] theorem setSfxVolume_cfg (ch : Chan) (d : Byte) (s : State) :
    (setSfxVolume ch d s).cfg = s.cfg := rfl
@[simp] theorem setSfxVolume_it (ch : Chan) (d : Byte) (s : State) :
    (setSfxVolume ch d s).it = s.it := rfl
@[simp] theorem setSfxVolume_tt (ch : Chan) (d : Byte) (s : State) :
    (setSfxVolume ch d s).tt = s.tt := rfl
@[simp] theorem setSfxVolume_mt (ch : Chan) (d : Byte) (s : State) :
    (setSfxVolume ch d s).mt = s.mt := rfl
@[simp] theorem setSfxVolume_sfx (ch : Chan) (d : Byte) (s : State) :
    (setSfxVolume ch d s).sfx = { s.sfx with sfxVol := s.sfx.sfxVol.set ch (volumeField s.cfg d) } := rfl
@[simp] theorem setSfxVolume_cursor (ch : Chan) (d : Byte) (s : State) :
    (setSfxVolume ch d s).cursor = s.cursor := rfl
@[simp] theorem setSfxVolume_samples (ch : Chan) (d : Byte) (s : State) :
    (setSfxVolume ch d s).samples = s.samples := rfl
@[simp] theorem setSfxVolume_readData (ch : Chan) (d : Byte) (s : State) :
    (setSfxVolume ch d s).readData = s.readData := rfl
@[simp] theorem setSfxVolume_irqCalls (ch : Chan) (d : Byte) (s : State) :
    (setSfxVolume ch d s).irqCalls = s.irqCalls := rfl
@[simp] theorem setSfxVolume_trace (ch : Chan) (d : Byte) (s : State) :
    (setSfxVolume ch d s).trace = s.trace := rfl
@[simp] theorem setSfxVolume_cfgIn (ch : Chan) (d : Byte) (s : State) :
    (setSfxVolume ch d s).cfgIn = s.cfgIn := rfl
@[simp] theorem setSfxVolume_draws (ch : Chan) (d : Byte) (s : State) :
    (setSfxVolume ch d s).draws = s.draws := rfl
@[simp] theorem setSfxVolume_openReads (ch : Chan) (d : Byte) (s : State) :
    (setSfxVolume ch d s).openReads = s.openReads := rfl

@[simp] theorem busRead_cfg (b : Byte) (s : State) :
    (busRead b s).cfg = s.cfg := rfl
@[simp] theorem busRead_it (b : Byte) (s : State) :
    (busRead b s).it = s.it := rfl
@[simp] theorem busRead_tt (b : Byte) (s : State) :
    (busRead b s).tt = s.tt := rfl
@[simp] theorem busRead_mt (b : Byte) (s : State) :
    (busRead b s).mt = s.mt := rfl
@[simp] theorem busRead_sfx (b : Byte) (s : State) :
    (busRead b s).sfx = s.sfx := rfl
@[simp] theorem busRead_cursor (b : Byte) (s : State) :
    (busRead b s).cursor = s.cursor := rfl
@[simp] theorem busRead_samples (b : Byte) (s : State) :
    (busRead b s).samples = s.samples := rfl
@[simp] theorem busRead_readData (b : Byte) (s : State) :
    (busRead b s).readData = some b := rfl
@[simp] theorem busRead_irqCalls (b : Byte) (s : State) :
    (busRead b s).irqCalls = s.irqCalls := rfl
@[simp] theorem busRead_trace (b : Byte) (s : State) :
    (busRead b s).trace = s.trace := rfl
@[simp] theorem busRead_cfgIn (b : Byte) (s : State) :
    (busRead b s).cfgIn = s.cfgIn := rfl
@[simp] theorem busRead_draws (b : Byte) (s : State) :
    (busRead b s).draws = s.draws := rfl
@[simp] theorem busRead_openReads (b : Byte) (s : State) :
    (busRead b s).openReads = s.openReads := rfl

@[simp] theorem busReadOpen_cfg (b : Byte) (s : State) :
    (busReadOpen b s).cfg = s.cfg := rfl
@[simp] theorem busReadOpen_it (b : Byte) (s : State) :
    (busReadOpen b s).it = s.it := rfl
@[simp] theorem busReadOpen_tt (b : Byte) (s : State) :
    (busReadOpen b s).tt = s.tt := rfl
@[simp] theorem busReadOpen_mt (b : Byte) (s : State) :
    (busReadOpen b s).mt = s.mt := rfl
@[simp] theorem busReadOpen_sfx (b : Byte) (s : State) :
    (busReadOpen b s).sfx = s.sfx := rfl
@[simp] theorem busReadOpen_cursor (b : Byte) (s : State) :
    (busReadOpen b s).cursor = s.cursor := rfl
@[simp] theorem busReadOpen_samples (b : Byte) (s : State) :
    (busReadOpen b s).samples = s.samples := rfl
@[simp] theorem busReadOpen_readData (b : Byte) (s : State) :
    (busReadOpen b s).readData = some b := rfl
@[simp] theorem busReadOpen_irqCalls (b : Byte) (s : State) :
    (busReadOpen b s).irqCalls = s.irqCalls := rfl
@[simp] theorem busReadOpen_trace (b : Byte) (s : State) :
    (busReadOpen b s).trace = s.trace := rfl
@[simp] theorem busReadOpen_cfgIn (b : Byte) (s : State) :
    (busReadOpen b s).cfgIn = s.cfgIn := rfl
@[simp] theorem busReadOpen_draws (b : Byte) (s : State) :
    (busReadOpen b s).draws = s.draws := rfl
@[simp] theorem busReadOpen_openReads (b : Byte) (s : State) :
    (busReadOpen b s).openReads = s.openReads + 1 := rfl

@[simp] theorem emitAll_cfg (x : State × List Sample) :
    (emitAll x).cfg = x.1.cfg := rfl
@[simp] theorem emitAll_it (x : State × List Sample) :
    (emitAll x).it = x.1.it := rfl
@[simp] theorem emitAll_tt (x : State × List Sample) :
    (emitAll x).tt = x.1.tt := rfl
@[simp] theorem emitAll_mt (x : State × List Sample) :
    (emitAll x).mt = x.1.mt := rfl
@[simp] theorem emitAll_sfx (x : State × List Sample) :
    (emitAll x).sfx = x.1.sfx := rfl
@[simp] theorem emitAll_cursor (x : State × List Sample) :
    (emitAll x).cursor = x.1.cursor + x.2.length := rfl
@[simp] theorem emitAll_samples (x : State × List Sample) :
    (emitAll x).samples = x.1.samples ++ x.2 := rfl
@[simp] theorem emitAll_readData (x : State × List Sample) :
    (emitAll x).readData = x.1.readData := rfl
@[simp] theorem emitAll_irqCalls (x : State × List Sample) :
    (emitAll x).irqCalls = x.1.irqCalls := rfl
@[simp] theorem emitAll_trace (x : State × List Sample) :
    (emitAll x).trace = x.1.trace := rfl
@[simp] theorem emitAll_cfgIn (x : State × List Sample) :
    (emitAll x).cfgIn = x.1.cfgIn := rfl
@[simp] theorem emitAll_draws (x : State × List Sample) :
    (emitAll x).draws = x.1.draws := rfl
@[simp] theorem emitAll_openReads (x : State × List Sample) :
    (emitAll x).openReads = x.1.openReads := rfl

@[simp] theorem resetBlock_cfg (s : State) :
    (resetBlock s).cfg = s.cfgIn := rfl
@[simp] theorem resetBlock_it (s : State) :
    (resetBlock s).it = .initial := rfl
@[simp] theorem resetBlock_tt (s : State) :
    (resetBlock s).tt = .initial := rfl
@[simp] theorem resetBlock_mt (s : State) :
    (resetBlock s).mt = .initial := rfl
@[simp] theorem resetBlock_sfx (s : State) :
    (resetBlock s).sfx = .initial s.cfgIn := rfl
@[simp] theorem resetBlock_cursor (s : State) :
    (resetBlock s).cursor = 0 := rfl
@[simp] theorem resetBlock_samples (s : State) :
    (resetBlock s).samples = [] := rfl
@[simp] theorem resetBlock_readData (s : State) :
    (resetBlock s).readData = none := rfl
@[simp] theorem resetBlock_irqCalls (s : State) :
    (resetBlock s).irqCalls = callsAfter s.irqCalls s.it.irqLine false := rfl
@[simp] theorem resetBlock_trace (s : State) :
    (resetBlock s).trace = s.trace := rfl
@[simp] theorem resetBlock_cfgIn (s : State) :
    (resetBlock s).cfgIn = s.cfgIn := rfl
@[simp] theorem resetBlock_draws (s : State) :
    (resetBlock s).draws = s.draws := rfl
@[simp] theorem resetBlock_openReads (s : State) :
    (resetBlock s).openReads = s.openReads := rfl

@[simp] theorem loadPort_cfg (off : BitVec 5) (d : Byte) (s : State) :
    (loadPort off d s).cfg = s.cfg := rfl
@[simp] theorem loadPort_it (off : BitVec 5) (d : Byte) (s : State) :
    (loadPort off d s).it = itLoadPort s.cfg off d s.it := rfl
@[simp] theorem loadPort_tt (off : BitVec 5) (d : Byte) (s : State) :
    (loadPort off d s).tt = s.tt := rfl
@[simp] theorem loadPort_mt (off : BitVec 5) (d : Byte) (s : State) :
    (loadPort off d s).mt = s.mt := rfl
@[simp] theorem loadPort_sfx (off : BitVec 5) (d : Byte) (s : State) :
    (loadPort off d s).sfx = s.sfx := rfl
@[simp] theorem loadPort_cursor (off : BitVec 5) (d : Byte) (s : State) :
    (loadPort off d s).cursor = s.cursor := rfl
@[simp] theorem loadPort_samples (off : BitVec 5) (d : Byte) (s : State) :
    (loadPort off d s).samples = s.samples := rfl
@[simp] theorem loadPort_readData (off : BitVec 5) (d : Byte) (s : State) :
    (loadPort off d s).readData = s.readData := rfl
@[simp] theorem loadPort_irqCalls (off : BitVec 5) (d : Byte) (s : State) :
    (loadPort off d s).irqCalls = callsAfter s.irqCalls s.it.irqLine (itLoadPort s.cfg off d s.it).irqLine := rfl
@[simp] theorem loadPort_trace (off : BitVec 5) (d : Byte) (s : State) :
    (loadPort off d s).trace = s.trace := rfl
@[simp] theorem loadPort_cfgIn (off : BitVec 5) (d : Byte) (s : State) :
    (loadPort off d s).cfgIn = s.cfgIn := rfl
@[simp] theorem loadPort_draws (off : BitVec 5) (d : Byte) (s : State) :
    (loadPort off d s).draws = s.draws := rfl
@[simp] theorem loadPort_openReads (off : BitVec 5) (d : Byte) (s : State) :
    (loadPort off d s).openReads = s.openReads := rfl

/-! ### Updates of the timer -/

@[simp] theorem latchExpiry_itState (x : IntervalTimer) :
    (latchExpiry x).itState = x.itState := rfl
@[simp] theorem latchExpiry_itDivsel (x : IntervalTimer) :
    (latchExpiry x).itDivsel = x.itDivsel := rfl
@[simp] theorem latchExpiry_itLoad (x : IntervalTimer) :
    (latchExpiry x).itLoad = x.itLoad := rfl
@[simp] theorem latchExpiry_itElapsed (x : IntervalTimer) :
    (latchExpiry x).itElapsed = x.itElapsed := rfl
@[simp] theorem latchExpiry_irqEnabled (x : IntervalTimer) :
    (latchExpiry x).irqEnabled = x.irqEnabled := rfl
@[simp] theorem latchExpiry_irqFlag (x : IntervalTimer) :
    (latchExpiry x).irqFlag = true := rfl
@[simp] theorem latchExpiry_irqLine (x : IntervalTimer) :
    (latchExpiry x).irqLine = (x.irqEnabled || x.irqLine) := rfl
@[simp] theorem latchExpiry_paOut (x : IntervalTimer) :
    (latchExpiry x).paOut = x.paOut := rfl
@[simp] theorem latchExpiry_paDdr (x : IntervalTimer) :
    (latchExpiry x).paDdr = x.paDdr := rfl
@[simp] theorem latchExpiry_pbOut (x : IntervalTimer) :
    (latchExpiry x).pbOut = x.pbOut := rfl
@[simp] theorem latchExpiry_pbDdr (x : IntervalTimer) :
    (latchExpiry x).pbDdr = x.pbDdr := rfl

@[simp] theorem dropLine_itState (x : IntervalTimer) :
    (dropLine x).itState = x.itState := rfl
@[simp] theorem dropLine_itDivsel (x : IntervalTimer) :
    (dropLine x).itDivsel = x.itDivsel := rfl
@[simp] theorem dropLine_itLoad (x : IntervalTimer) :
    (dropLine x).itLoad = x.itLoad := rfl
@[simp] theorem dropLine_itElapsed (x : IntervalTimer) :
    (dropLine x).itElapsed = x.itElapsed := rfl
@[simp] theorem dropLine_irqEnabled (x : IntervalTimer) :
    (dropLine x).irqEnabled = x.irqEnabled := rfl
@[simp] theorem dropLine_irqFlag (x : IntervalTimer) :
    (dropLine x).irqFlag = x.irqFlag := rfl
@[simp] theorem dropLine_irqLine (x : IntervalTimer) :
    (dropLine x).irqLine = false := rfl
@[simp] theorem dropLine_paOut (x : IntervalTimer) :
    (dropLine x).paOut = x.paOut := rfl
@[simp] theorem dropLine_paDdr (x : IntervalTimer) :
    (dropLine x).paDdr = x.paDdr := rfl
@[simp] theorem dropLine_pbOut (x : IntervalTimer) :
    (dropLine x).pbOut = x.pbOut := rfl
@[simp] theorem dropLine_pbDdr (x : IntervalTimer) :
    (dropLine x).pbDdr = x.pbDdr := rfl

@[simp] theorem acknowledge_itState (x : IntervalTimer) :
    (acknowledge x).itState = x.itState := rfl
@[simp] theorem acknowledge_itDivsel (x : IntervalTimer) :
    (acknowledge x).itDivsel = x.itDivsel := rfl
@[simp] theorem acknowledge_itLoad (x : IntervalTimer) :
    (acknowledge x).itLoad = x.itLoad := rfl
@[simp] theorem acknowledge_itElapsed (x : IntervalTimer) :
    (acknowledge x).itElapsed = x.itElapsed := rfl
@[simp] theorem acknowledge_irqEnabled (x : IntervalTimer) :
    (acknowledge x).irqEnabled = x.irqEnabled := rfl
@[simp] theorem acknowledge_irqFlag (x : IntervalTimer) :
    (acknowledge x).irqFlag = false := rfl
@[simp] theorem acknowledge_irqLine (x : IntervalTimer) :
    (acknowledge x).irqLine = false := rfl
@[simp] theorem acknowledge_paOut (x : IntervalTimer) :
    (acknowledge x).paOut = x.paOut := rfl
@[simp] theorem acknowledge_paDdr (x : IntervalTimer) :
    (acknowledge x).paDdr = x.paDdr := rfl
@[simp] theorem acknowledge_pbOut (x : IntervalTimer) :
    (acknowledge x).pbOut = x.pbOut := rfl
@[simp] theorem acknowledge_pbDdr (x : IntervalTimer) :
    (acknowledge x).pbDdr = x.pbDdr := rfl

@[simp] theorem loadFlags_itState (c : Config) (e : Bool) (x : IntervalTimer) :
    (loadFlags c e x).itState = x.itState := rfl
@[simp] theorem loadFlags_itDivsel (c : Config) (e : Bool) (x : IntervalTimer) :
    (loadFlags c e x).itDivsel = x.itDivsel := rfl
@[simp] theorem loadFlags_itLoad (c : Config) (e : Bool) (x : IntervalTimer) :
    (loadFlags c e x).itLoad = x.itLoad := rfl
@[simp] theorem loadFlags_itElapsed (c : Config) (e : Bool) (x : IntervalTimer) :
    (loadFlags c e x).itElapsed = x.itElapsed := rfl
@[simp] theorem loadFlags_irqEnabled (c : Config) (e : Bool) (x : IntervalTimer) :
    (loadFlags c e x).irqEnabled = e := rfl
@[simp] theorem loadFlags_irqFlag (c : Config) (e : Bool) (x : IntervalTimer) :
    (loadFlags c e x).irqFlag = flagAfterLoad c e x.irqFlag := rfl
@[simp] theorem loadFlags_irqLine (c : Config) (e : Bool) (x : IntervalTimer) :
    (loadFlags c e x).irqLine = false := rfl
@[simp] theorem loadFlags_paOut (c : Config) (e : Bool) (x : IntervalTimer) :
    (loadFlags c e x).paOut = x.paOut := rfl
@[simp] theorem loadFlags_paDdr (c : Config) (e : Bool) (x : IntervalTimer) :
    (loadFlags c e x).paDdr = x.paDdr := rfl
@[simp] theorem loadFlags_pbOut (c : Config) (e : Bool) (x : IntervalTimer) :
    (loadFlags c e x).pbOut = x.pbOut := rfl
@[simp] theorem loadFlags_pbDdr (c : Config) (e : Bool) (x : IntervalTimer) :
    (loadFlags c e x).pbDdr = x.pbDdr := rfl

@[simp] theorem itExp1_itState (x : IntervalTimer) :
    (itExp1 x).itState = .countingDown := rfl
@[simp] theorem itExp1_itDivsel (x : IntervalTimer) :
    (itExp1 x).itDivsel = x.itDivsel := rfl
@[simp] theorem itExp1_itLoad (x : IntervalTimer) :
    (itExp1 x).itLoad = x.itLoad := rfl
@[simp] theorem itExp1_itElapsed (x : IntervalTimer) :
    (itExp1 x).itElapsed = 0#18 := rfl
@[simp] theorem itExp1_irqEnabled (x : IntervalTimer) :
    (itExp1 x).irqEnabled = x.irqEnabled := rfl
@[simp] theorem itExp1_irqFlag (x : IntervalTimer) :
    (itExp1 x).irqFlag = true := rfl
@[simp] theorem itExp1_irqLine (x : IntervalTimer) :
    (itExp1 x).irqLine = (x.irqEnabled || x.irqLine) := rfl
@[simp] theorem itExp1_paOut (x : IntervalTimer) :
    (itExp1 x).paOut = x.paOut := rfl
@[simp] theorem itExp1_paDdr (x : IntervalTimer) :
    (itExp1 x).paDdr = x.paDdr := rfl
@[simp] theorem itExp1_pbOut (x : IntervalTimer) :
    (itExp1 x).pbOut = x.pbOut := rfl
@[simp] theorem itExp1_pbDdr (x : IntervalTimer) :
    (itExp1 x).pbDdr = x.pbDdr := rfl

@[simp] theorem itExp2_itState (x : IntervalTimer) :
    (itExp2 x).itState = .idle := rfl
@[simp] theorem itExp2_itDivsel (x : IntervalTimer) :
    (itExp2 x).itDivsel = x.itDivsel := rfl
@[simp] theorem itExp2_itLoad (x : IntervalTimer) :
    (itExp2 x).itLoad = x.itLoad := rfl
@[simp] theorem itExp2_itElapsed (x : IntervalTimer) :
    (itExp2 x).itElapsed = 0#18 := rfl
@[simp] theorem itExp2_irqEnabled (x : IntervalTimer) :
    (itExp2 x).irqEnabled = x.irqEnabled := rfl
@[simp] theorem itExp2_irqFlag (x : IntervalTimer) :
    (itExp2 x).irqFlag = x.irqFlag := rfl
@[simp] theorem itExp2_irqLine (x : IntervalTimer) :
    (itExp2 x).irqLine = x.irqLine := rfl
@[simp] theorem itExp2_paOut (x : IntervalTimer) :
    (itExp2 x).paOut = x.paOut := rfl
@[simp] theorem itExp2_paDdr (x : IntervalTimer) :
    (itExp2 x).paDdr = x.paDdr := rfl
@[simp] theorem itExp2_pbOut (x : IntervalTimer) :
    (itExp2 x).pbOut = x.pbOut := rfl
@[simp] theorem itExp2_pbDdr (x : IntervalTimer) :
    (itExp2 x).pbDdr = x.pbDdr := rfl

@[simp] theorem countTick_itState (x : IntervalTimer) :
    (countTick x).itState = x.itState := rfl
@[simp] theorem countTick_itDivsel (x : IntervalTimer) :
    (countTick x).itDivsel = x.itDivsel := rfl
@[simp] theorem countTick_itLoad (x : IntervalTimer) :
    (countTick x).itLoad = x.itLoad := rfl
@[simp] theorem countTick_itElapsed (x : IntervalTimer) :
    (countTick x).itElapsed = x.itElapsed + 1#18 := rfl
@[simp] theorem countTick_irqEnabled (x : IntervalTimer) :
    (countTick x).irqEnabled = x.irqEnabled := rfl
@[simp] theorem countTick_irqFlag (x : IntervalTimer) :
    (countTick x).irqFlag = x.irqFlag := rfl
@[simp] theorem countTick_irqLine (x : IntervalTimer) :
    (countTick x).irqLine = x.irqLine := rfl
@[simp] theorem countTick_paOut (x : IntervalTimer) :
    (countTick x).paOut = x.paOut := rfl
@[simp] theorem countTick_paDdr (x : IntervalTimer) :
    (countTick x).paDdr = x.paDdr := rfl
@[simp] theorem countTick_pbOut (x : IntervalTimer) :
    (countTick x).pbOut = x.pbOut := rfl
@[simp] theorem countTick_pbDdr (x : IntervalTimer) :
    (countTick x).pbDdr = x.pbDdr := rfl

@[simp] theorem startLeg_itState (c : Config) (off : BitVec 5) (d : Byte) (x : IntervalTimer) :
    (startLeg c off d x).itState = .countingUp := rfl
@[simp] theorem startLeg_itDivsel (c : Config) (off : BitVec 5) (d : Byte) (x : IntervalTimer) :
    (startLeg c off d x).itDivsel = loadDivsel off := rfl
@[simp] theorem startLeg_itLoad (c : Config) (off : BitVec 5) (d : Byte) (x : IntervalTimer) :
    (startLeg c off d x).itLoad = d := rfl
@[simp] theorem startLeg_itElapsed (c : Config) (off : BitVec 5) (d : Byte) (x : IntervalTimer) :
    (startLeg c off d x).itElapsed = 0#18 := rfl
@[simp] theorem startLeg_irqEnabled (c : Config) (off : BitVec 5) (d : Byte) (x : IntervalTimer) :
    (startLeg c off d x).irqEnabled = loadIrqEnable off := rfl
@[simp] theorem startLeg_irqFlag (c : Config) (off : BitVec 5) (d : Byte) (x : IntervalTimer) :
    (startLeg c off d x).irqFlag = flagAfterLoad c (loadIrqEnable off) x.irqFlag := rfl
@[simp] theorem startLeg_irqLine (c : Config) (off : BitVec 5) (d : Byte) (x : IntervalTimer) :
    (startLeg c off d x).irqLine = false := rfl
@[simp] theorem startLeg_paOut (c : Config) (off : BitVec 5) (d : Byte) (x : IntervalTimer) :
    (startLeg c off d x).paOut = x.paOut := rfl
@[simp] theorem startLeg_paDdr (c : Config) (off : BitVec 5) (d : Byte) (x : IntervalTimer) :
    (startLeg c off d x).paDdr = x.paDdr := rfl
@[simp] theorem startLeg_pbOut (c : Config) (off : BitVec 5) (d : Byte) (x : IntervalTimer) :
    (startLeg c off d x).pbOut = x.pbOut := rfl
@[simp] theorem startLeg_pbDdr (c : Config) (off : BitVec 5) (d : Byte) (x : IntervalTimer) :
    (startLeg c off d x).pbDdr = x.pbDdr := rfl

end Sys2Proof.Machine
end

