-- ==== Sys2Proof/Laws/Mixer.lean ====
section
/-! SUPPORT. Laws/Mixer.lean: what a rendering can do (45 R165), said once: it appends `n` samples and moves
the cursor, the phases and the counts of draws, and nothing else. -/

namespace Sys2Proof.Machine

@[simp] theorem walk_nil (hb : Nat) (v : Sample) (inc : Nat → Phase) (j : Nat) (p : Phase) :
    walk hb v inc j [] p = (p, []) := rfl

theorem walk_cons (hb : Nat) (v : Sample) (inc : Nat → Phase) (j : Nat) (b : Sample) (bs : List Sample)
    (p : Phase) :
    walk hb v inc j (b :: bs) p =
      ((walk hb v inc (j + 1) bs (p + inc j)).1,
        (if (p + inc j).getLsbD hb then b + v else b) :: (walk hb v inc (j + 1) bs (p + inc j)).2) := rfl

/-- Walking a channel keeps the buffer's length. -/
@[simp] theorem walk_length (hb : Nat) (v : Sample) (inc : Nat → Phase) (bs : List Sample) :
    ∀ (j : Nat) (p : Phase), (walk hb v inc j bs p).2.length = bs.length := by
  induction bs with
  | nil => intro j p; rfl
  | cons b bs ih => intro j p; rw [walk_cons]; simp [ih]

/-- With the same increment for every sample the numbering of the increments does not matter (45 R168, R171). -/
theorem walk_constant_index (hb : Nat) (v : Sample) (st : Phase) (bs : List Sample) :
    ∀ (j j' : Nat) (p : Phase), walk hb v (fun _ => st) j bs p = walk hb v (fun _ => st) j' bs p := by
  induction bs with
  | nil => intros; rfl
  | cons b bs ih => intro j j' p; rw [walk_cons, walk_cons, ih (j + 1) (j' + 1)]

/-- A draw lies in `0..RAND_MAX15` (41 R94). -/
theorem drawn_le (c : Config) (draw : DrawSource) (ch : Chan) (j : Nat) : drawn c draw ch j ≤ c.randMax15 :=
  Nat.le_of_lt_succ (Nat.mod_lt _ (Nat.succ_pos _))

/-- A source that keeps to the range is read as it is: every sequence of draws occurs (41 R94). -/
theorem drawn_of_le {c : Config} {draw : DrawSource} {ch : Chan} {j : Nat} (h : draw ch j ≤ c.randMax15) :
    drawn c draw ch j = draw ch j :=
  Nat.mod_eq_of_lt (Nat.lt_succ_of_le h)

/-- `y` is `x` but for the phases, the counts of draws and the samples in the buffer, of the same length. -/
def OnlyPhases (x y : State × List Sample) : Prop :=
  y.2.length = x.2.length ∧
  ∃ tp mp dr, y.1 =
    { x.1 with
      tt := { x.1.tt with ttPhase := tp }
      mt := { x.1.mt with mtPhase := mp }
      draws := dr }

theorem OnlyPhases.refl (x : State × List Sample) : OnlyPhases x x := ⟨rfl, _, _, _, rfl⟩

theorem OnlyPhases.trans {x y z : State × List Sample} (a : OnlyPhases x y) (b : OnlyPhases y z) :
    OnlyPhases x z := by
  obtain ⟨la, tp, mp, dr, ea⟩ := a
  obtain ⟨lb, tp', mp', dr', eb⟩ := b
  exact ⟨lb.trans la, tp', mp', dr', by rw [eb, ea]⟩

/-- A property of one channel's step that every step of a list of channels has, in turn. -/
theorem OnlyPhases.foldl {f : Chan → State × List Sample → State × List Sample}
    (h : ∀ ch x, OnlyPhases x (f ch x)) :
    ∀ (chs : List Chan) (x : State × List Sample), OnlyPhases x (chs.foldl (fun x ch => f ch x) x)
  | [], x => .refl x
  | ch :: chs, x => (h ch x).trans (OnlyPhases.foldl h chs (f ch x))

/-- The channels of a trio with `count` of them, one after the other: each is passed over unless its index lies
below `count` (00_scope R5). -/
theorem foldl_channelsBelow {α : Type} (f : Chan → α → α) (count : Nat) (x : α) :
    (channelsBelow count).foldl (fun x ch => f ch x) x =
      (let step (ch : Chan) (y : α) := if ch.index < count then f ch y else y
       step .ch2 (step .ch1 (step .ch0 x))) := by
  match count with
  | 0 => rfl
  | 1 => rfl
  | 2 => rfl
  | n + 3 => simp [channelsBelow, Chan.index]

theorem renderTone_onlyPhases (draw : DrawSource) (nf : Nat × Nat) (ch : Chan) (x : State × List Sample) :
    OnlyPhases x (renderTone draw nf ch x) := by
  unfold renderTone
  split
  · split
    · exact ⟨rfl, _, _, _, rfl⟩
    · split
      · exact ⟨walk_length .., _, _, _, rfl⟩
      · exact ⟨walk_length .., _, _, _, rfl⟩
  · exact .refl x

theorem renderMusic_onlyPhases (ch : Chan) (x : State × List Sample) : OnlyPhases x (renderMusic ch x) := by
  unfold renderMusic
  dsimp only
  split
  · exact ⟨walk_length .., _, _, _, rfl⟩
  · exact .refl x

theorem mix_onlyPhases (draw : DrawSource) (n : Nat) (s : State) :
    OnlyPhases (s, List.replicate n 0#16) (mix draw n s) :=
  (OnlyPhases.foldl (fun ch x => renderTone_onlyPhases draw _ ch x) _ _).trans
    (OnlyPhases.foldl renderMusic_onlyPhases _ _)

/-- Everything a rendering can do to the state (45 R165, "State written"). -/
theorem render_frame (draw : DrawSource) (n : Nat) (s : State) :
    ∃ tp mp dr buf, buf.length = n ∧ render draw n s =
      { s with
        tt := { s.tt with ttPhase := tp }
        mt := { s.mt with mtPhase := mp }
        draws := dr
        samples := s.samples ++ buf
        cursor := s.cursor + n } := by
  obtain ⟨len, tp, mp, dr, e⟩ := mix_onlyPhases draw n s
  rw [List.length_replicate] at len
  exact ⟨tp, mp, dr, (mix draw n s).2, len, by rw [render, emitAll, e, len]⟩

@[simp] theorem render_cfg (draw : DrawSource) (n : Nat) (s : State) : (render draw n s).cfg = s.cfg := by
  obtain ⟨_, _, _, _, _, e⟩ := render_frame draw n s; rw [e]

@[simp] theorem render_it (draw : DrawSource) (n : Nat) (s : State) : (render draw n s).it = s.it := by
  obtain ⟨_, _, _, _, _, e⟩ := render_frame draw n s; rw [e]

@[simp] theorem render_sfx (draw : DrawSource) (n : Nat) (s : State) : (render draw n s).sfx = s.sfx := by
  obtain ⟨_, _, _, _, _, e⟩ := render_frame draw n s; rw [e]

@[simp] theorem render_readData (draw : DrawSource) (n : Nat) (s : State) : (render draw n s).readData = s.readData := by
  obtain ⟨_, _, _, _, _, e⟩ := render_frame draw n s; rw [e]

@[simp] theorem render_irqCalls (draw : DrawSource) (n : Nat) (s : State) : (render draw n s).irqCalls = s.irqCalls := by
  obtain ⟨_, _, _, _, _, e⟩ := render_frame draw n s; rw [e]

@[simp] theorem render_trace (draw : DrawSource) (n : Nat) (s : State) : (render draw n s).trace = s.trace := by
  obtain ⟨_, _, _, _, _, e⟩ := render_frame draw n s; rw [e]

@[simp] theorem render_cfgIn (draw : DrawSource) (n : Nat) (s : State) : (render draw n s).cfgIn = s.cfgIn := by
  obtain ⟨_, _, _, _, _, e⟩ := render_frame draw n s; rw [e]

@[simp] theorem render_openReads (draw : DrawSource) (n : Nat) (s : State) : (render draw n s).openReads = s.openReads := by
  obtain ⟨_, _, _, _, _, e⟩ := render_frame draw n s; rw [e]

@[simp] theorem render_ttCr (draw : DrawSource) (n : Nat) (s : State) :
    (render draw n s).tt.ttCr = s.tt.ttCr := by
  obtain ⟨_, _, _, _, _, e⟩ := render_frame draw n s; rw [e]

@[simp] theorem render_ttMsb (draw : DrawSource) (n : Nat) (s : State) :
    (render draw n s).tt.ttMsb = s.tt.ttMsb := by
  obtain ⟨_, _, _, _, _, e⟩ := render_frame draw n s; rw [e]

@[simp] theorem render_ttCount (draw : DrawSource) (n : Nat) (s : State) :
    (render draw n s).tt.ttCount = s.tt.ttCount := by
  obtain ⟨_, _, _, _, _, e⟩ := render_frame draw n s; rw [e]

@[simp] theorem render_ttStep (draw : DrawSource) (n : Nat) (s : State) :
    (render draw n s).tt.ttStep = s.tt.ttStep := by
  obtain ⟨_, _, _, _, _, e⟩ := render_frame draw n s; rw [e]

@[simp] theorem render_mtToggle (draw : DrawSource) (n : Nat) (s : State) :
    (render draw n s).mt.mtToggle = s.mt.mtToggle := by
  obtain ⟨_, _, _, _, _, e⟩ := render_frame draw n s; rw [e]

@[simp] theorem render_mtLow (draw : DrawSource) (n : Nat) (s : State) :
    (render draw n s).mt.mtLow = s.mt.mtLow := by
  obtain ⟨_, _, _, _, _, e⟩ := render_frame draw n s; rw [e]

@[simp] theorem render_mtCount (draw : DrawSource) (n : Nat) (s : State) :
    (render draw n s).mt.mtCount = s.mt.mtCount := by
  obtain ⟨_, _, _, _, _, e⟩ := render_frame draw n s; rw [e]

@[simp] theorem render_mtStep (draw : DrawSource) (n : Nat) (s : State) :
    (render draw n s).mt.mtStep = s.mt.mtStep := by
  obtain ⟨_, _, _, _, _, e⟩ := render_frame draw n s; rw [e]

@[simp] theorem render_mtEnabled (draw : DrawSource) (n : Nat) (s : State) :
    (render draw n s).mt.mtEnabled = s.mt.mtEnabled := by
  obtain ⟨_, _, _, _, _, e⟩ := render_frame draw n s; rw [e]

@[simp] theorem render_cursor (draw : DrawSource) (n : Nat) (s : State) :
    (render draw n s).cursor = s.cursor + n := by
  obtain ⟨_, _, _, _, _, e⟩ := render_frame draw n s; rw [e]

/-- The stream grows by exactly `n` samples at its end. -/
theorem render_samples (draw : DrawSource) (n : Nat) (s : State) :
    (render draw n s).samples = s.samples ++ (mix draw n s).2 ∧ (mix draw n s).2.length = n := by
  obtain ⟨len, _, _, _, e⟩ := mix_onlyPhases draw n s
  rw [List.length_replicate] at len
  exact ⟨by rw [render, emitAll, e], len⟩

/-- Enabled, noisy and volume of a channel do not change in a rendering (41 R91). -/
@[simp] theorem toneEnabled_render (draw : DrawSource) (n : Nat) (s : State) (ch : Chan) :
    toneEnabled (render draw n s) ch = toneEnabled s ch := by
  simp [toneEnabled]

@[simp] theorem toneNoisy_render (draw : DrawSource) (n : Nat) (s : State) (ch : Chan) :
    toneNoisy (render draw n s) ch = toneNoisy s ch := by
  simp [toneNoisy]

@[simp] theorem toneVolume_render (draw : DrawSource) (n : Nat) (s : State) (ch : Chan) :
    toneVolume (render draw n s) ch = toneVolume s ch := by
  simp [toneVolume]

/-- Emitting a list is emitting its values one after the other (45 R166). -/
theorem emitAll_append (s : State) (a b : List Sample) :
    emitAll (emitAll (s, a), b) = emitAll (s, a ++ b) := by
  simp [emitAll, Nat.add_assoc]

end Sys2Proof.Machine
end

