-- ==== Sys2Proof/Laws/Timer.lean ====
section
/-! SUPPORT. Laws/Timer.lean: what a tick, a run of ticks and a load of the interval timer can do
(42 R102 to R106, R110), said once. -/

namespace Sys2Proof.Machine

/-- Everything a tick can do (42 R104). -/
theorem itTick_cases (c : Config) (x : IntervalTimer) :
    (x.itState = .idle ∧ itTick c x = x) ∨
    (x.itState = .countingUp ∧ (x.itElapsed + 1#18).toNat = upLeg c x ∧ itTick c x = itExp1 (countTick x)) ∨
    (x.itState = .countingUp ∧ (x.itElapsed + 1#18).toNat ≠ upLeg c x ∧ itTick c x = countTick x) ∨
    (x.itState = .countingDown ∧ (x.itElapsed + 1#18).toNat = downLeg c x ∧ itTick c x = itExp2 (countTick x)) ∨
    (x.itState = .countingDown ∧ (x.itElapsed + 1#18).toNat ≠ downLeg c x ∧ itTick c x = countTick x) := by
  have e : (countTick x).itElapsed = x.itElapsed + 1#18 := rfl
  rcases h : x.itState with _ | _ | _
  · exact .inl ⟨rfl, by simp only [itTick, h]⟩
  · by_cases l : (x.itElapsed + 1#18).toNat = upLeg c x
    · exact .inr (.inl ⟨rfl, l, by simp only [itTick, h, e, l, if_true]⟩)
    · exact .inr (.inr (.inl ⟨rfl, l, by simp only [itTick, h, e, l, if_false]⟩))
  · by_cases l : (x.itElapsed + 1#18).toNat = downLeg c x
    · exact .inr (.inr (.inr (.inl ⟨rfl, l, by simp only [itTick, h, e, l, if_true]⟩)))
    · exact .inr (.inr (.inr (.inr ⟨rfl, l, by simp only [itTick, h, e, l, if_false]⟩)))

/-- What a tick leaves alone: the divider, the count, the enable and the port latches. -/
theorem itTick_frame (c : Config) (x : IntervalTimer) :
    (itTick c x).itDivsel = x.itDivsel ∧ (itTick c x).itLoad = x.itLoad ∧
    (itTick c x).irqEnabled = x.irqEnabled ∧ (itTick c x).paOut = x.paOut ∧ (itTick c x).paDdr = x.paDdr ∧
    (itTick c x).pbOut = x.pbOut ∧ (itTick c x).pbDdr = x.pbDdr := by
  obtain ⟨_, e⟩ | ⟨_, _, e⟩ | ⟨_, _, e⟩ | ⟨_, _, e⟩ | ⟨_, _, e⟩ := itTick_cases c x <;> rw [e] <;>
    exact ⟨rfl, rfl, rfl, rfl, rfl, rfl, rfl⟩

@[simp] theorem itTicks_zero (c : Config) (x : IntervalTimer) : itTicks c 0 x = x := rfl

theorem itTicks_succ (c : Config) (t : Nat) (x : IntervalTimer) :
    itTicks c (t + 1) x = itTicks c t (itTick c x) := rfl

/-- A property of the timer that every tick keeps holds after any number of ticks. -/
theorem itTicks_keep {c : Config} {P : IntervalTimer → Prop} (keep : ∀ x, P x → P (itTick c x)) :
    ∀ (t : Nat) (x : IntervalTimer), P x → P (itTicks c t x)
  | 0, _, h => h
  | t + 1, x, h => itTicks_keep keep t (itTick c x) (keep x h)

/-- What a run of ticks leaves alone. -/
theorem itTicks_frame (c : Config) : ∀ (t : Nat) (x : IntervalTimer),
    (itTicks c t x).itDivsel = x.itDivsel ∧ (itTicks c t x).itLoad = x.itLoad ∧
    (itTicks c t x).irqEnabled = x.irqEnabled ∧ (itTicks c t x).paOut = x.paOut ∧
    (itTicks c t x).paDdr = x.paDdr ∧ (itTicks c t x).pbOut = x.pbOut ∧ (itTicks c t x).pbDdr = x.pbDdr
  | 0, _ => ⟨rfl, rfl, rfl, rfl, rfl, rfl, rfl⟩
  | t + 1, x => by
    obtain ⟨a1, a2, a3, a4, a5, a6, a7⟩ := itTicks_frame c t (itTick c x)
    obtain ⟨b1, b2, b3, b4, b5, b6, b7⟩ := itTick_frame c x
    exact ⟨a1.trans b1, a2.trans b2, a3.trans b3, a4.trans b4, a5.trans b5, a6.trans b6, a7.trans b7⟩

/-- Ticks never drop the line and never clear the flag (42 R105, R106). -/
theorem itTicks_keep_flag_line (c : Config) (t : Nat) (x : IntervalTimer) :
    (x.irqFlag = true → (itTicks c t x).irqFlag = true) ∧ (x.irqLine = true → (itTicks c t x).irqLine = true) := by
  have tick (y : IntervalTimer) :
      (y.irqFlag = true → (itTick c y).irqFlag = true) ∧ (y.irqLine = true → (itTick c y).irqLine = true) := by
    obtain ⟨_, e⟩ | ⟨_, _, e⟩ | ⟨_, _, e⟩ | ⟨_, _, e⟩ | ⟨_, _, e⟩ := itTick_cases c y <;> rw [e] <;>
      simp +contextual
  exact ⟨fun h => itTicks_keep (P := fun y => y.irqFlag = true) (fun y => (tick y).1) t x h,
    fun h => itTicks_keep (P := fun y => y.irqLine = true) (fun y => (tick y).2) t x h⟩

/-- A stopped timer stays as it is (42 R104, R106). -/
theorem itTicks_idle (c : Config) {x : IntervalTimer} (h : x.itState = .idle) :
    ∀ t : Nat, itTicks c t x = x
  | 0 => rfl
  | t + 1 => by
    rw [itTicks_succ, show itTick c x = x by simp only [itTick, h]]
    exact itTicks_idle c h t

/-- The dividers of 00_scope R5 lie between 1 and 1024. -/
theorem divider_bounds {c : Config} (h : c.Structural) (sel : BitVec 2) :
    0 < divider c sel ∧ divider c sel ≤ 1024 := by
  rw [divider, h.1]
  split <;> decide

/-- No leg reaches the range of the 18-bit counter (10_state R15), and the second leg is not empty. -/
theorem leg_bounds {c : Config} (h : c.Structural) (x : IntervalTimer) :
    upLeg c x < 2 ^ 18 ∧ 0 < downLeg c x ∧ downLeg c x < 2 ^ 18 := by
  obtain ⟨d0, d1⟩ := divider_bounds h x.itDivsel
  have l := x.itLoad.isLt
  refine ⟨?_, ?_, ?_⟩
  · calc upLeg c x ≤ 1024 * 255 := Nat.mul_le_mul d1 (by omega)
      _ < 2 ^ 18 := by decide
  · rw [downLeg, h.2.1]; omega
  · rw [downLeg, h.2.1]; omega

/-- Below the end of a leg the 18-bit counter counts without wrapping (10_state R15). -/
theorem countTick_toNat {x : IntervalTimer} {n : Nat} (h : x.itElapsed.toNat < n) (hn : n < 2 ^ 18) :
    (countTick x).itElapsed.toNat = x.itElapsed.toNat + 1 := by
  rw [countTick_itElapsed, BitVec.toNat_add]
  simp only [BitVec.toNat_ofNat]
  omega

/-- Everything a load can do (42 R102, R103). -/
theorem itLoadPort_cases (c : Config) (off : BitVec 5) (d : Byte) (x : IntervalTimer) :
    (d = 0#8 ∧ itLoadPort c off d x = itExp1 (startLeg c off d x)) ∨
    (d ≠ 0#8 ∧ itLoadPort c off d x = startLeg c off d x) := by
  by_cases h : d = 0#8
  · exact .inl ⟨h, if_pos h⟩
  · exact .inr ⟨h, if_neg h⟩

@[simp] theorem callsAfter_same (calls : List Bool) (b : Bool) : callsAfter calls b b = calls := if_pos rfl

/-- A change of level makes one call, with the new level (60 R203). -/
theorem callsAfter_changed (calls : List Bool) {a b : Bool} (h : b ≠ a) : callsAfter calls a b = calls ++ [b] :=
  if_neg h

end Sys2Proof.Machine
end

