-- ==== Sys2Proof/Laws/Bus.lean ====
section
/-! SUPPORT. Laws/Bus.lean: the two bus wrappers and the step, each said once (46 R185, R186; 00_scope R8). -/

namespace Sys2Proof.Machine

/-- A write answers with the mutation of the flushed state (46 R186). -/
theorem busWrite_next {k : BitVec 32} {m : State → State} {s t : State} (h : busWrite k m s = .next t) :
    t = m (render Config.draw k.toNat s) := by
  injection h with e; exact e.symm

/-- The value of two bytes put together (00_scope R7). -/
theorem toNat_countOf (hi lo : Byte) : (countOf hi lo).toNat = hi.toNat * 256 + lo.toNat := by
  rw [countOf, BitVec.toNat_append, Nat.shiftLeft_eq, Nat.mul_comm, ← Nat.two_pow_add_eq_or_of_lt lo.isLt]

/-- Everything a step can do. -/
theorem step_cases (s : State) :
    (s.trace = [] ∧ step s = .next s) ∨
    (∃ w rest i, s.trace = w :: rest ∧ decode w = .ok i ∧ step s = exec i { s with trace := rest }) ∨
    (∃ w rest why, s.trace = w :: rest ∧ decode w = .error why ∧ step s = .refused (.reservedRecord why)) := by
  rcases ht : s.trace with _ | ⟨w, rest⟩
  · exact .inl ⟨rfl, by simp only [step, ht]⟩
  · rcases hd : decode w with why | i
    · exact .inr (.inr ⟨w, rest, why, rfl, hd, by simp only [step, ht, hd]⟩)
    · exact .inr (.inl ⟨w, rest, i, rfl, hd, by simp only [step, ht, hd]⟩)

end Sys2Proof.Machine
end

