-- ==== Sys2Proof/Laws/Encoding.lean ====
section
/-! SUPPORT. Laws/Encoding.lean: packing and unpacking a record's fields are inverse (30 R61), and the
codes of the units. -/

namespace Sys2Proof

/-- The number of a packed record is the sum of 30 R61: no field spills into the next. -/
theorem toNat_pack (f : Fields) :
    (pack f).toNat =
      f.kind.toNat * 2 ^ 60 + f.unitSel.toNat * 2 ^ 58 + f.off.toNat * 2 ^ 53 + f.z1.toNat * 2 ^ 48 +
        f.data.toNat * 2 ^ 40 + f.z2.toNat * 2 ^ 32 + f.cnt.toNat := by
  have h1 := f.kind.isLt; have h2 := f.unitSel.isLt; have h3 := f.off.isLt; have h4 := f.z1.isLt
  have h5 := f.data.isLt; have h6 := f.z2.isLt; have h7 := f.cnt.isLt
  rw [pack, BitVec.toNat_ofNat, Nat.mod_eq_of_lt]
  omega

/-- The fields of a packed record are the fields. -/
theorem fieldsOf_pack (f : Fields) : fieldsOf (pack f) = f := by
  have h1 := f.kind.isLt; have h2 := f.unitSel.isLt; have h3 := f.off.isLt; have h4 := f.z1.isLt
  have h5 := f.data.isLt; have h6 := f.z2.isLt; have h7 := f.cnt.isLt
  have field (start len : Nat) (x : BitVec len)
      (h : (pack f).toNat / 2 ^ start % 2 ^ len = x.toNat) : (pack f).extractLsb' start len = x := by
    apply BitVec.eq_of_toNat_eq
    rw [BitVec.extractLsb'_toNat, Nat.shiftRight_eq_div_pow, h]
  rw [fieldsOf, field 60 4 f.kind, field 58 2 f.unitSel, field 53 5 f.off, field 48 5 f.z1,
    field 40 8 f.data, field 32 8 f.z2, field 0 32 f.cnt] <;> rw [toNat_pack] <;> omega

/-- A record is its fields packed. -/
theorem pack_fieldsOf (w : Record) : pack (fieldsOf w) = w := by
  have h := w.isLt
  apply BitVec.eq_of_toNat_eq
  rw [toNat_pack]
  simp only [fieldsOf, BitVec.extractLsb'_toNat, Nat.shiftRight_eq_div_pow]
  omega

theorem fieldsOf_injective {w w' : Record} (h : fieldsOf w = fieldsOf w') : w = w' := by
  rw [← pack_fieldsOf w, h, pack_fieldsOf]

/-- A row covers a record exactly when it covers each of the record's fields (30 R66). -/
theorem OpcodeRow.covers_iff (r : OpcodeRow) (w : Record) : r.covers w = true ↔
   (fieldsOf w).kind &&& (fieldsOf r.mask).kind = (fieldsOf r.pattern).kind ∧
   (fieldsOf w).unitSel &&& (fieldsOf r.mask).unitSel = (fieldsOf r.pattern).unitSel ∧
   (fieldsOf w).off &&& (fieldsOf r.mask).off = (fieldsOf r.pattern).off ∧
   (fieldsOf w).z1 &&& (fieldsOf r.mask).z1 = (fieldsOf r.pattern).z1 ∧
   (fieldsOf w).data &&& (fieldsOf r.mask).data = (fieldsOf r.pattern).data ∧
   (fieldsOf w).z2 &&& (fieldsOf r.mask).z2 = (fieldsOf r.pattern).z2 ∧
   (fieldsOf w).cnt &&& (fieldsOf r.mask).cnt = (fieldsOf r.pattern).cnt := by
  rw [OpcodeRow.covers, beq_iff_eq]
  constructor
  · intro h; rw [← h]
    simp only [fieldsOf, BitVec.extractLsb'_and, and_self]
  · intro ⟨h1, h2, h3, h4, h5, h6, h7⟩
    apply fieldsOf_injective
    simp only [fieldsOf, BitVec.extractLsb'_and, Fields.mk.injEq]
    exact ⟨h1, h2, h3, h4, h5, h6, h7⟩

@[simp] theorem unitOf_unitCode (u : BusUnit) : unitOf (unitCode u) = u := by cases u <;> rfl

theorem unitCode_unitOf (u : BitVec 2) : unitCode (unitOf u) = u := by revert u; decide

end Sys2Proof
end

