-- ==== Sys2Proof/Laws/PerInstr.lean ====
section
/-! SUPPORT. Laws/PerInstr.lean: the family DecodeFields, one lemma per constructor of Instr: the decoder
reads a well-formed operation's own fields as that operation (30 R61, R66). -/

namespace Sys2Proof.Laws

/-- The decoder gives the operation back from its fields. -/
def DecodeFields.Statement (i : Instr) : Prop :=
  i.wellFormed = true → decodeFields i.fields = .ok i

/-- The decoder on the fields of a write without reserved bits. -/
theorem decodeFields_write (u : BusUnit) (off : BitVec 5) (d : Byte) (k : BitVec 32) :
    decodeFields (writeFields u off d k) = decodeWrite u off d k := by
  cases u <;> rfl

/-- The decoder on the fields of a read. -/
theorem decodeFields_read (u : BusUnit) (off : BitVec 5) :
    decodeFields (readFields u off) = decodeRead u off := by
  cases u <;> rfl

/-- An ignored write offset is on no other row. -/
theorem decodeWrite_ignored (off : BitVec 5) (d : Byte) (k : BitVec 32) (h : ignoredWriteOffset off = true) :
    decodeWrite .it off d k = .ok (.itWign off d k) := by
  revert off
  suffices ∀ off : Fin 32, ignoredWriteOffset (BitVec.ofFin off) = true →
      decodeWrite .it (BitVec.ofFin off) d k = .ok (.itWign (BitVec.ofFin off) d k) from
    fun off h => this off.toFin h
  intro off h
  fin_cases off <;> first | rfl | exact absurd h (by decide)

/-- An undecoded read offset is on no other row. -/
theorem decodeRead_undefined (off : BitVec 5) (h : undefinedReadOffset off = true) :
    decodeRead .it off = .ok (.itRund off) := by
  revert off
  suffices ∀ off : Fin 32, undefinedReadOffset (BitVec.ofFin off) = true →
      decodeRead .it (BitVec.ofFin off) = .ok (.itRund (BitVec.ofFin off)) from
    fun off h => this off.toFin h
  intro off h
  fin_cases off <;> first | rfl | exact absurd h (by decide)

theorem DecodeFields.itWpad (data : Byte) (k : BitVec 32) : DecodeFields.Statement (.itWpad data k) :=
  fun _ => rfl

theorem DecodeFields.itWpaddr (data : Byte) (k : BitVec 32) : DecodeFields.Statement (.itWpaddr data k) :=
  fun _ => rfl

theorem DecodeFields.itWpbd (data : Byte) (k : BitVec 32) : DecodeFields.Statement (.itWpbd data k) :=
  fun _ => rfl

theorem DecodeFields.itWpbddr (data : Byte) (k : BitVec 32) : DecodeFields.Statement (.itWpbddr data k) :=
  fun _ => rfl

theorem DecodeFields.itLd1 (data : Byte) (k : BitVec 32) : DecodeFields.Statement (.itLd1 data k) :=
  fun _ => rfl

theorem DecodeFields.itLd8 (data : Byte) (k : BitVec 32) : DecodeFields.Statement (.itLd8 data k) :=
  fun _ => rfl

theorem DecodeFields.itLd64 (data : Byte) (k : BitVec 32) : DecodeFields.Statement (.itLd64 data k) :=
  fun _ => rfl

theorem DecodeFields.itLd1k (data : Byte) (k : BitVec 32) : DecodeFields.Statement (.itLd1k data k) :=
  fun _ => rfl

theorem DecodeFields.itLd1i (data : Byte) (k : BitVec 32) : DecodeFields.Statement (.itLd1i data k) :=
  fun _ => rfl

theorem DecodeFields.itLd8i (data : Byte) (k : BitVec 32) : DecodeFields.Statement (.itLd8i data k) :=
  fun _ => rfl

theorem DecodeFields.itLd64i (data : Byte) (k : BitVec 32) : DecodeFields.Statement (.itLd64i data k) :=
  fun _ => rfl

theorem DecodeFields.itLd1ki (data : Byte) (k : BitVec 32) : DecodeFields.Statement (.itLd1ki data k) :=
  fun _ => rfl

theorem DecodeFields.itWign (off : BitVec 5) (data : Byte) (k : BitVec 32) : DecodeFields.Statement (.itWign off data k) :=
  fun h => (decodeFields_write .it off data k).trans (decodeWrite_ignored off data k h)

theorem DecodeFields.itRpad : DecodeFields.Statement .itRpad :=
  fun _ => rfl

theorem DecodeFields.itRpaddr : DecodeFields.Statement .itRpaddr :=
  fun _ => rfl

theorem DecodeFields.itRpbd : DecodeFields.Statement .itRpbd :=
  fun _ => rfl

theorem DecodeFields.itRpbddr : DecodeFields.Statement .itRpbddr :=
  fun _ => rfl

theorem DecodeFields.itRcnt (aliased : Bool) : DecodeFields.Statement (.itRcnt aliased) := by
  intro _; cases aliased <;> rfl

theorem DecodeFields.itRflg (aliased : Bool) : DecodeFields.Statement (.itRflg aliased) := by
  intro _; cases aliased <;> rfl

theorem DecodeFields.itRund (off : BitVec 5) : DecodeFields.Statement (.itRund off) :=
  fun h => (decodeFields_read .it off).trans (decodeRead_undefined off h)

theorem DecodeFields.ttWcr (data : Byte) (k : BitVec 32) : DecodeFields.Statement (.ttWcr data k) :=
  fun _ => rfl

theorem DecodeFields.ttWmc (data : Byte) (k : BitVec 32) : DecodeFields.Statement (.ttWmc data k) :=
  fun _ => rfl

theorem DecodeFields.ttWmsb2 (data : Byte) (k : BitVec 32) : DecodeFields.Statement (.ttWmsb2 data k) :=
  fun _ => rfl

theorem DecodeFields.ttWmsb4 (data : Byte) (k : BitVec 32) : DecodeFields.Statement (.ttWmsb4 data k) :=
  fun _ => rfl

theorem DecodeFields.ttWmsb6 (data : Byte) (k : BitVec 32) : DecodeFields.Statement (.ttWmsb6 data k) :=
  fun _ => rfl

theorem DecodeFields.ttWlsb0 (data : Byte) (k : BitVec 32) : DecodeFields.Statement (.ttWlsb0 data k) :=
  fun _ => rfl

theorem DecodeFields.ttWlsb1 (data : Byte) (k : BitVec 32) : DecodeFields.Statement (.ttWlsb1 data k) :=
  fun _ => rfl

theorem DecodeFields.ttWlsb2 (data : Byte) (k : BitVec 32) : DecodeFields.Statement (.ttWlsb2 data k) :=
  fun _ => rfl

theorem DecodeFields.ttRund (off : BitVec 3) : DecodeFields.Statement (.ttRund off) := by
  intro _; revert off; decide

theorem DecodeFields.mtWcnt0 (data : Byte) (k : BitVec 32) : DecodeFields.Statement (.mtWcnt0 data k) :=
  fun _ => rfl

theorem DecodeFields.mtWcnt1 (data : Byte) (k : BitVec 32) : DecodeFields.Statement (.mtWcnt1 data k) :=
  fun _ => rfl

theorem DecodeFields.mtWcnt2 (data : Byte) (k : BitVec 32) : DecodeFields.Statement (.mtWcnt2 data k) :=
  fun _ => rfl

theorem DecodeFields.mtWgate (data : Byte) (k : BitVec 32) : DecodeFields.Statement (.mtWgate data k) :=
  fun _ => rfl

theorem DecodeFields.mtRund (off : BitVec 2) : DecodeFields.Statement (.mtRund off) := by
  intro _; revert off; decide

theorem DecodeFields.sfxWctl (data : Byte) (k : BitVec 32) : DecodeFields.Statement (.sfxWctl data k) :=
  fun _ => rfl

theorem DecodeFields.sfxWvol0 (data : Byte) (k : BitVec 32) : DecodeFields.Statement (.sfxWvol0 data k) :=
  fun _ => rfl

theorem DecodeFields.sfxWvol1 (data : Byte) (k : BitVec 32) : DecodeFields.Statement (.sfxWvol1 data k) :=
  fun _ => rfl

theorem DecodeFields.sfxWvol2 (data : Byte) (k : BitVec 32) : DecodeFields.Statement (.sfxWvol2 data k) :=
  fun _ => rfl

theorem DecodeFields.sfxRund (off : BitVec 2) : DecodeFields.Statement (.sfxRund off) := by
  intro _; revert off; decide

theorem DecodeFields.render (n : BitVec 32) : DecodeFields.Statement (.render n) :=
  fun _ => rfl

theorem DecodeFields.itAdv (t : BitVec 32) : DecodeFields.Statement (.itAdv t) :=
  fun _ => rfl

theorem DecodeFields.reset : DecodeFields.Statement .reset :=
  fun _ => rfl

end Sys2Proof.Laws
end

