-- ==== Sys2Proof/Tests/Slice0.lean ====
section
/-! SUPPORT. Tests/Slice0.lean: small tests of one operation each, their expected results written out in
spec/95_test_vectors.md (the vector is named) or computed by hand from the rule that is named; and, for
every statement with hypotheses, a witness that its hypotheses can be met together. -/

namespace Sys2Proof.Tests

open Sys2Proof Sys2Proof.Machine

/-! ### Helpers -/

/-- A timer with empty port latches, in the order of 95_test_vectors section 2.3. -/
def tmr (q : ItState) (sel : BitVec 2) (load : Byte) (e : BitVec 18) (en fl ln : Bool) : IntervalTimer :=
  { IntervalTimer.initial with
    itState := q, itDivsel := sel, itLoad := load, itElapsed := e, irqEnabled := en, irqFlag := fl, irqLine := ln }

/-- The reset state with this timer. -/
def withTimer (x : IntervalTimer) : State :=
  { State.reset with it := x, irqCalls := if x.irqLine then [true] else [] }

/-- The state an operation answers, or the same state where it answers none. -/
def after (i : Instr) (s : State) : State :=
  match exec i s with
  | .next t => t
  | .fault _ => s
  | .refused _ => s

/-- Tone channel 1 of V-MIX-1: pure, count 213, volume 2340; nothing else on. -/
def toneOne : State :=
  { State.reset with
    tt := { ToneTimer.initial with
      ttCr := ⟨0x00#8, 0x82#8, 0x00#8⟩, ttCount := ⟨0#16, 213#16, 0#16⟩, ttStep := ⟨0#32, 3196684#32, 0#32⟩ }
    sfx := { Sfx.initial Config.standard with sfxVol := ⟨7#3, 3#3, 7#3⟩ } }

/-- Tone channel 0 of V-MIX-1 with this control byte and this `sfx_control`. -/
def toneZero (cr ctl : Byte) : State :=
  { State.reset with
    tt := { ToneTimer.initial with
      ttCr := ⟨cr, 0x00#8, 0x00#8⟩, ttCount := ⟨100#16, 0#16, 0#16⟩, ttStep := ⟨6808936#32, 0#32, 0#32⟩ }
    sfx := { Sfx.initial Config.standard with sfxControl := ctl } }

/-- Tone channel 2 of P4: noisy, count 16. -/
def noisyTwo : State :=
  { State.reset with
    tt := { ToneTimer.initial with
      ttCr := ⟨0x00#8, 0x00#8, 0x80#8⟩, ttCount := ⟨0#16, 0#16, 16#16⟩, ttStep := ⟨0#32, 0#32, 42555851#32⟩ } }

/-- Music channel 0 of V-ORD-1: count 256, enabled. -/
def musicZero : State :=
  { State.reset with
    mt := { MusicTimer.initial with
      mtCount := ⟨256#16, 0#16, 0#16⟩, mtStep := ⟨2659741#32, 0#32, 0#32⟩, mtEnabled := ⟨true, false, false⟩ } }

/-- The six pairs of draws of P4, for channel 2. -/
def drawsP4 : DrawSource := fun _ j =>
  match j with
  | 0 => 32767 | 1 => 32767 | 4 => 16384 | 5 => 16384 | 6 => 20000 | 7 => 10000
  | 8 => 1 | 10 => 32767 | _ => 0

/-! ### Well-formedness: an ill-formed term for each check -/

theorem test_wign_outside_its_offsets :
    (Instr.itWign 0x03#5 0#8 0#32).wellFormed = false ∧ (Instr.itWign 0x14#5 0#8 0#32).wellFormed = false ∧
    (Instr.itWign 0x17#5 0#8 0#32).wellFormed = false ∧ (Instr.itWign 0x1C#5 0#8 0#32).wellFormed = false := by
  decide

theorem test_rund_outside_its_offsets :
    (Instr.itRund 0x00#5).wellFormed = false ∧ (Instr.itRund 0x07#5).wellFormed = false := by decide

theorem test_wellFormed_at_the_boundaries :
    (Instr.itWign 0x04#5 0#8 0#32).wellFormed = true ∧ (Instr.itWign 0x13#5 0#8 0#32).wellFormed = true ∧
    (Instr.itWign 0x18#5 0#8 0#32).wellFormed = true ∧ (Instr.itWign 0x1B#5 0#8 0#32).wellFormed = true ∧
    (Instr.itRund 0x08#5).wellFormed = true ∧ (Instr.itRund 0x1F#5).wellFormed = true := by decide

/-! ### Decoding: a record written from 30 R61 and R66 for every constructor -/

/-- 95_test_vectors section 3 and 30 R66: the port and load writes of the interval timer. -/
theorem test_decode_it_writes :
    decode 0x1000550000000003#64 = .ok (.itWpad 0x55#8 3#32) ∧
    decode 0x1020FF0000000000#64 = .ok (.itWpaddr 0xFF#8 0#32) ∧
    decode 0x1040120000000000#64 = .ok (.itWpbd 0x12#8 0#32) ∧
    decode 0x10600F0000000000#64 = .ok (.itWpbddr 0x0F#8 0#32) ∧
    decode 0x1280010000000000#64 = .ok (.itLd1 1#8 0#32) ∧
    decode 0x12A0010000000000#64 = .ok (.itLd8 1#8 0#32) ∧
    decode 0x12C0020000000000#64 = .ok (.itLd64 2#8 0#32) ∧
    decode 0x12E0010000000000#64 = .ok (.itLd1k 1#8 0#32) ∧
    decode 0x1380000000000000#64 = .ok (.itLd1i 0#8 0#32) ∧
    decode 0x13A0640000000000#64 = .ok (.itLd8i 100#8 0#32) ∧
    decode 0x13C0020000000000#64 = .ok (.itLd64i 2#8 0#32) ∧
    decode 0x13E0FF0000000000#64 = .ok (.itLd1ki 255#8 0#32) := by
  refine ⟨?_, ?_, ?_, ?_, ?_, ?_, ?_, ?_, ?_, ?_, ?_, ?_⟩ <;> rfl

/-- 30 R66, 46 R188: one record of each of the four rows of `IT.WIGN`. -/
theorem test_decode_wign :
    decode 0x1080000000000000#64 = .ok (.itWign 0x04#5 0#8 0#32) ∧
    decode 0x1100000000000000#64 = .ok (.itWign 0x08#5 0#8 0#32) ∧
    decode 0x1200FF0000000000#64 = .ok (.itWign 0x10#5 0xFF#8 0#32) ∧
    decode 0x13600000FFFFFFFF#64 = .ok (.itWign 0x1B#5 0#8 0xFFFFFFFF#32) := by
  refine ⟨?_, ?_, ?_, ?_⟩ <;> rfl

/-- 95_test_vectors section 3 and 30 R66: the reads of the interval timer. -/
theorem test_decode_it_reads :
    decode 0x0000000000000000#64 = .ok .itRpad ∧ decode 0x0020000000000000#64 = .ok .itRpaddr ∧
    decode 0x0040000000000000#64 = .ok .itRpbd ∧ decode 0x0060000000000000#64 = .ok .itRpbddr ∧
    decode 0x0080000000000000#64 = .ok (.itRcnt false) ∧ decode 0x00C0000000000000#64 = .ok (.itRcnt true) ∧
    decode 0x00A0000000000000#64 = .ok (.itRflg false) ∧ decode 0x00E0000000000000#64 = .ok (.itRflg true) ∧
    decode 0x0100000000000000#64 = .ok (.itRund 0x08#5) ∧ decode 0x0280000000000000#64 = .ok (.itRund 0x14#5) ∧
    decode 0x03E0000000000000#64 = .ok (.itRund 0x1F#5) := by
  refine ⟨?_, ?_, ?_, ?_, ?_, ?_, ?_, ?_, ?_, ?_, ?_⟩ <;> rfl

/-- 95_test_vectors section 3 and 30 R66: the tone timer. -/
theorem test_decode_tt :
    decode 0x1400820000000000#64 = .ok (.ttWcr 0x82#8 0#32) ∧
    decode 0x1420830000000000#64 = .ok (.ttWmc 0x83#8 0#32) ∧
    decode 0x14400F0000000000#64 = .ok (.ttWmsb2 15#8 0#32) ∧
    decode 0x1480020000000000#64 = .ok (.ttWmsb4 2#8 0#32) ∧
    decode 0x14C0AA0000000000#64 = .ok (.ttWmsb6 0xAA#8 0#32) ∧
    decode 0x1460640000000000#64 = .ok (.ttWlsb0 100#8 0#32) ∧
    decode 0x14A0E40000000000#64 = .ok (.ttWlsb1 228#8 0#32) ∧
    decode 0x14E0100000000000#64 = .ok (.ttWlsb2 16#8 0#32) ∧
    decode 0x0460000000000000#64 = .ok (.ttRund 3#3) ∧ decode 0x04E0000000000000#64 = .ok (.ttRund 7#3) := by
  refine ⟨?_, ?_, ?_, ?_, ?_, ?_, ?_, ?_, ?_, ?_⟩ <;> rfl

/-- 95_test_vectors section 3 and 30 R66: the music timer and the sfx unit. -/
theorem test_decode_mt_sfx :
    decode 0x1800010000000000#64 = .ok (.mtWcnt0 1#8 0#32) ∧
    decode 0x1820340000000000#64 = .ok (.mtWcnt1 0x34#8 0#32) ∧
    decode 0x1840120000000000#64 = .ok (.mtWcnt2 0x12#8 0#32) ∧
    decode 0x1860000000000005#64 = .ok (.mtWgate 0#8 5#32) ∧
    decode 0x0800000000000000#64 = .ok (.mtRund 0#2) ∧
    decode 0x1C00020000000000#64 = .ok (.sfxWctl 2#8 0#32) ∧
    decode 0x1C20070000000000#64 = .ok (.sfxWvol0 7#8 0#32) ∧
    decode 0x1C400B0000000000#64 = .ok (.sfxWvol1 0x0B#8 0#32) ∧
    decode 0x1C60010000000000#64 = .ok (.sfxWvol2 1#8 0#32) ∧
    decode 0x0C60000000000000#64 = .ok (.sfxRund 3#2) := by
  refine ⟨?_, ?_, ?_, ?_, ?_, ?_, ?_, ?_, ?_, ?_⟩ <;> rfl

/-- 95_test_vectors section 3: the operations that are no bus cycle. -/
theorem test_decode_others :
    decode 0x2000000000000000#64 = .ok (.render 0#32) ∧ decode 0x200000000000012C#64 = .ok (.render 300#32) ∧
    decode 0x300000000003FC00#64 = .ok (.itAdv 261120#32) ∧ decode 0x4000000000000000#64 = .ok .reset := by
  refine ⟨?_, ?_, ?_, ?_⟩ <;> rfl

/-- 95_test_vectors section 3: the five records a decoder must refuse; and one for each other reason of
30 R68. -/
theorem test_decode_refuses :
    decode 0x5000000000000000#64 = .error .kind ∧ decode 0xF000000000000000#64 = .error .kind ∧
    decode 0x1401000000000000#64 = .error .zeroField ∧ decode 0x1400000100000000#64 = .error .zeroField ∧
    decode 0x1500000000000000#64 = .error .offset ∧ decode 0x0880000000000000#64 = .error .offset ∧
    decode 0x00A0010000000000#64 = .error .readOperand ∧ decode 0x00A0000000000001#64 = .error .readOperand ∧
    decode 0x2400000000000000#64 = .error .busField ∧ decode 0x3020000000000000#64 = .error .busField ∧
    decode 0x4000000000000001#64 = .error .resetCount := by
  refine ⟨?_, ?_, ?_, ?_, ?_, ?_, ?_, ?_, ?_, ?_, ?_⟩ <;> rfl

/-- 30 R66, R67: the 47 rows do not overlap: two rows differ in a bit that both fix. -/
theorem test_rows_disjoint :
    opcodeTable.length = 47 ∧
    opcodeTable.Pairwise (fun a b => (a.pattern ^^^ b.pattern) &&& a.mask &&& b.mask ≠ 0#64) := by
  decide

/-- 30 R72, R73: three lines of a trace, read and expanded. -/
theorem test_read_line :
    readLine "IT.LD8I 100 ; first leg of 800 ticks".toList = some (.op (.itLd8i 100#8 0#32), none) ∧
    readLine "MT.WGATE 0x00, k=5".toList = some (.op (.mtWgate 0#8 5#32), none) ∧
    readLine "RD IT, 5 -> 0x80".toList = some (.rd .it 5, some 0x80#8) := by decide

/-- 30 R73: the expansion of `TT.SETCR 2, v` keeps bits 7:1 of `tt_cr[1]`. -/
theorem test_expand_setcr :
    (expandLine 0x83#8 (.ttSetCr .ch2 0x80#8)).toOption = some [.ttWmc 0x82#8 0#32, .ttWcr 0x80#8 0#32] := by
  decide

/-! ### Phase accumulator and noise -/

/-- 40 R81, worked examples: the sum carries into bit 24; the wrap clears it. -/
theorem test_advance : advance 0x00FFFFFF#32 1#32 24 = (0x01000000#32, true) ∧
    advance 0xFFFFFFFF#32 1#32 24 = (0#32, false) := by decide

/-- 40 R83, V-STEP: counts 1, 213, 256, 4068 and the reserved count 0. -/
theorem test_freqStep :
    freqStep Config.standard 1#16 = 680893610#32 ∧ freqStep Config.standard 213#16 = 3196684#32 ∧
    freqStep Config.standard 256#16 = 2659741#32 ∧ freqStep Config.standard 4068#16 = 167378#32 ∧
    freqStep Config.standard 0#16 = 0#32 := by decide

/-- 00_scope section 5: a tie goes up; the two other named roundings by hand from decision D4. -/
theorem test_stepQuotient :
    rdiv 5 2 = 3 ∧ stepQuotient .down 5 2 = 2 ∧ stepQuotient .up 5 2 = 3 ∧ stepQuotient .up 4 2 = 2 := by decide

/-- 41 R90, worked example: the pair for `tt_count[0] = 100`. -/
theorem test_noiseFreq : noiseFreq Config.standard 0x01#8 100#16 = (1789773, 200) ∧
    noiseFreq Config.standard 0x00#8 100#16 = (1789773, 1) := by decide

/-- 41 R92, worked examples. -/
theorem test_avgStep :
    avgStep Config.standard (1789773, 1) 1#16 = 5195#32 ∧ avgStep Config.standard (1789773, 1) 16#16 = 325#32 ∧
    avgStep Config.standard (1789773, 1) 4068#16 = 1#32 ∧
    avgStep Config.standard (1789773, 200) 16#16 = 2#32 := by decide

/-- 41 R93, worked example. -/
theorem test_noiseInc : noiseInc 325#32 32767 32767 = 21298550#32 := by decide

/-! ### Interval timer -/

/-- V-IT-1. -/
theorem test_ld8i : (after (.itLd8i 100#8 0#32) State.reset).it = tmr .countingUp 1#2 100#8 0#18 true false false := by
  decide

/-- V-IT-14: the variant without `I` clears the flag and drops the line (D19). -/
theorem test_ld64_clears_flag :
    (after (.itLd64 2#8 0#32) (withTimer (tmr .countingDown 1#2 100#8 0#18 true true true))).it =
      tmr .countingUp 2#2 2#8 0#18 false false false := by decide

/-- V-IT-12: the `I` variant keeps the flag, the line drops, with one call. -/
theorem test_ld64i_keeps_flag :
    (after (.itLd64i 2#8 0#32) (withTimer (tmr .countingDown 1#2 100#8 0#18 true true true))).it =
      tmr .countingUp 2#2 2#8 0#18 true true false ∧
    (after (.itLd64i 2#8 0#32) (withTimer (tmr .countingDown 1#2 100#8 0#18 true true true))).irqCalls =
      [true, false] := by decide

/-- V-IT-10. -/
theorem test_ld1i_zero :
    (after (.itLd1i 0#8 0#32) State.reset).it = tmr .countingDown 0#2 0#8 0#18 true true true := by decide

/-- V-IT-11. -/
theorem test_ld1_zero :
    (after (.itLd1 0#8 0#32) State.reset).it = tmr .countingDown 0#2 0#8 0#18 false true false := by decide

/-- 42 R101, R102 by hand: dividers 3 and 1 and the two enables of the remaining ports. -/
theorem test_other_load_ports :
    (after (.itLd1k 9#8 0#32) State.reset).it = tmr .countingUp 3#2 9#8 0#18 false false false ∧
    (after (.itLd1ki 9#8 0#32) State.reset).it = tmr .countingUp 3#2 9#8 0#18 true false false ∧
    (after (.itLd8 9#8 0#32) State.reset).it = tmr .countingUp 1#2 9#8 0#18 false false false := by decide

/-- V-IT-7: 20 ticks of the second leg bring no expiry. -/
theorem test_adv_inside_a_leg :
    (after (.itAdv 20#32) (withTimer (tmr .countingDown 1#2 100#8 0#18 true false false))).it =
      tmr .countingDown 1#2 100#8 20#18 true false false := by decide

/-- V-IT-3: the 800th tick is the first expiry. -/
theorem test_adv_first_expiry :
    (after (.itAdv 1#32) (withTimer (tmr .countingUp 1#2 100#8 799#18 true false false))).it =
      tmr .countingDown 1#2 100#8 0#18 true true true := by decide

/-- V-IT-9: the last tick of the second leg stops the timer and sets nothing. -/
theorem test_second_expiry :
    (after (.itAdv 1#32) (withTimer (tmr .countingDown 1#2 100#8 2039#18 true false false))).it =
      tmr .idle 1#2 100#8 0#18 true false false := by decide

/-- V-IT-15: with the enable off the flag is set and the line stays low. -/
theorem test_expiry_disabled :
    (after (.itAdv 1#32) (withTimer (tmr .countingUp 2#2 2#8 127#18 false false false))).it =
      tmr .countingDown 2#2 2#8 0#18 false true false := by decide

/-- V-IT-2 and V-IT-8: elapsed and remaining, truncated. -/
theorem test_rcnt :
    (after (.itRcnt false) (withTimer (tmr .countingUp 1#2 100#8 799#18 true false false))).readData = some 99#8 ∧
    (after (.itRcnt true) (withTimer (tmr .countingDown 1#2 100#8 2039#18 true false false))).readData = some 0#8 := by
  decide

/-- V-IT-4: 255, the line drops, the flag stays. -/
theorem test_rcnt_drops_line :
    (after (.itRcnt false) (withTimer (tmr .countingDown 1#2 100#8 0#18 true true true))).readData = some 255#8 ∧
    (after (.itRcnt false) (withTimer (tmr .countingDown 1#2 100#8 0#18 true true true))).it =
      tmr .countingDown 1#2 100#8 0#18 true true false := by decide

/-- V-IT-5 (D21). -/
theorem test_rflg :
    (after (.itRflg false) (withTimer (tmr .countingDown 1#2 100#8 0#18 true true false))).readData = some 0x80#8 ∧
    (after (.itRflg false) (withTimer (tmr .countingDown 1#2 100#8 0#18 true true false))).it =
      tmr .countingDown 1#2 100#8 0#18 true false false := by decide

/-- V-IT-6. -/
theorem test_rflg_again :
    (after (.itRflg true) (withTimer (tmr .countingDown 1#2 100#8 0#18 true false false))).readData = some 0x00#8 := by
  decide

/-- V-IT-21 and 42 R111: the latches, and the direction read. -/
theorem test_port_writes :
    (after (.itWpad 0x55#8 0#32) State.reset).it = { IntervalTimer.initial with paOut := 0x55#8 } ∧
    (after (.itWpaddr 0xFF#8 0#32) State.reset).it = { IntervalTimer.initial with paDdr := 0xFF#8 } ∧
    (after (.itWpbd 0x12#8 0#32) State.reset).it = { IntervalTimer.initial with pbOut := 0x12#8 } ∧
    (after (.itWpbddr 0x0F#8 0#32) State.reset).it = { IntervalTimer.initial with pbDdr := 0x0F#8 } := by decide

/-- V-IT-21. -/
theorem test_direction_reads :
    (after .itRpbddr (withTimer { IntervalTimer.initial with pbDdr := 0x0F#8 })).readData = some 0x0F#8 ∧
    (after .itRpaddr (withTimer { IntervalTimer.initial with paDdr := 0xF0#8 })).readData = some 0xF0#8 := by decide

/-- 42 R112: a data read returns a byte and does not return the latch by rule; it uses up one open byte. -/
theorem test_data_reads_are_open :
    (after .itRpad State.reset).openReads = 1 ∧ (after .itRpbd State.reset).openReads = 1 := by decide

/-- V-BUS-2: a write at a read-only offset does not clear the flag. -/
theorem test_wign :
    (after (.itWign 0x05#5 0#8 0#32) (withTimer (tmr .countingDown 1#2 100#8 0#18 true true true))).it =
      tmr .countingDown 1#2 100#8 0#18 true true true := by decide

/-- V-BUS-3 and V-BUS-4: an undecoded read loads nothing and flips no toggle. -/
theorem test_undefined_reads :
    (after (.itRund 0x14#5) State.reset).it = IntervalTimer.initial ∧
    (after (.ttRund 3#3) State.reset).tt = ToneTimer.initial ∧
    (after (.mtRund 0#2) State.reset).mt = MusicTimer.initial ∧
    (after (.sfxRund 0#2) State.reset).sfx = Sfx.initial Config.standard := by decide

/-! ### Tone timer -/

/-- V-TT-1: the commit, with the shared latch at 15. -/
theorem test_wlsb1 :
    (after (.ttWlsb1 228#8 0#32) { State.reset with tt := { ToneTimer.initial with ttMsb := 15#8 } }).tt =
      { ToneTimer.initial with
        ttMsb := 15#8, ttCount := ⟨0#16, 4068#16, 0#16⟩, ttStep := ⟨0#32, 167378#32, 0#32⟩ } := by decide

/-- V-TT-6: the latch keeps its value, both commits use it. -/
theorem test_wlsb0_wlsb2 :
    (after (.ttWlsb0 0x10#8 0#32) { State.reset with tt := { ToneTimer.initial with ttMsb := 2#8 } }).tt.ttCount.ch0 =
      528#16 ∧
    (after (.ttWlsb2 0x20#8 0#32) { State.reset with tt := { ToneTimer.initial with ttMsb := 2#8 } }).tt.ttStep.ch2 =
      1251643#32 := by decide

/-- V-TT-2: the master byte enables channel 1. -/
theorem test_wmc : (after (.ttWmc 0x82#8 0#32) State.reset).tt.ttCr = ⟨0x00#8, 0x82#8, 0x00#8⟩ := by decide

/-- V-TT-4. -/
theorem test_wcr_channel2 : (after (.ttWcr 0x80#8 0#32) State.reset).tt.ttCr = ⟨0x00#8, 0x00#8, 0x80#8⟩ := by decide

/-- V-TT-5. -/
theorem test_wcr_channel0 :
    (after (.ttWcr 0x82#8 0#32)
      { State.reset with tt := { ToneTimer.initial with ttCr := ⟨0x00#8, 0x83#8, 0x00#8⟩ } }).tt.ttCr =
      ⟨0x82#8, 0x83#8, 0x00#8⟩ := by decide

/-- V-TT-7, for the three offsets. -/
theorem test_wmsb :
    (after (.ttWmsb2 15#8 0#32) State.reset).tt = { ToneTimer.initial with ttMsb := 15#8 } ∧
    (after (.ttWmsb4 2#8 0#32) State.reset).tt = { ToneTimer.initial with ttMsb := 2#8 } ∧
    (after (.ttWmsb6 0xAA#8 0#32) State.reset).tt = { ToneTimer.initial with ttMsb := 0xAA#8 } := by decide

/-- V-TT-3: a zero count disables the channel whatever its control byte. -/
theorem test_zero_count_disables :
    toneEnabled toneOne .ch1 = true ∧ toneEnabled (after (.ttWlsb1 0#8 0#32) toneOne) .ch1 = false := by decide

/-! ### Music timer -/

/-- V-MT-1. -/
theorem test_wcnt0_low :
    (after (.mtWcnt0 0x55#8 0#32) State.reset).mt =
      { MusicTimer.initial with mtLow := ⟨0x55#8, 0#8, 0#8⟩, mtToggle := ⟨true, false, false⟩ } := by decide

/-- V-MT-2. -/
theorem test_wcnt0_high :
    (after (.mtWcnt0 0x01#8 0#32)
      { State.reset with mt := { MusicTimer.initial with mtToggle := ⟨true, false, false⟩ } }).mt =
      { MusicTimer.initial with mtCount := ⟨256#16, 0#16, 0#16⟩, mtStep := ⟨2659741#32, 0#32, 0#32⟩ } := by decide

/-- V-MT-3. -/
theorem test_wcnt1_high :
    (after (.mtWcnt1 0x12#8 0#32)
      { State.reset with
        mt := { MusicTimer.initial with mtLow := ⟨0#8, 0x34#8, 0#8⟩, mtToggle := ⟨false, true, false⟩ } }).mt =
      { MusicTimer.initial with
        mtLow := ⟨0#8, 0x34#8, 0#8⟩, mtCount := ⟨0#16, 4660#16, 0#16⟩, mtStep := ⟨0#32, 146115#32, 0#32⟩ } := by
  decide

/-- 44 R151: the toggles are independent. -/
theorem test_wcnt2_low :
    (after (.mtWcnt2 0x07#8 0#32)
      { State.reset with mt := { MusicTimer.initial with mtToggle := ⟨true, true, false⟩ } }).mt =
      { MusicTimer.initial with mtLow := ⟨0#8, 0#8, 7#8⟩, mtToggle := ⟨true, true, true⟩ } := by decide

/-- V-MT-5 to V-MT-8. -/
theorem test_wgate :
    (after (.mtWgate 0x06#8 0#32) State.reset).mt.mtEnabled = ⟨true, false, false⟩ ∧
    (after (.mtWgate 0x40#8 0#32)
      { State.reset with mt := { MusicTimer.initial with mtEnabled := .fill true } }).mt.mtEnabled =
      ⟨true, false, true⟩ ∧
    (after (.mtWgate 0x81#8 0#32)
      { State.reset with mt := { MusicTimer.initial with mtEnabled := .fill true } }).mt.mtEnabled =
      ⟨true, true, false⟩ ∧
    (after (.mtWgate 0xC6#8 0#32) State.reset).mt.mtEnabled = ⟨false, false, false⟩ := by decide

/-! ### Sfx ports and rendering -/

/-- V-MIX-3: bits 7:3 are ignored; the volume. -/
theorem test_wvol1 :
    (after (.sfxWvol1 0x0B#8 0#32) State.reset).sfx.sfxVol = ⟨7#3, 3#3, 7#3⟩ ∧
    toneVolume (after (.sfxWvol1 0x0B#8 0#32) State.reset) .ch1 = 2340#16 := by decide

/-- 45 R177: ports 1 and 3. -/
theorem test_wvol0_wvol2 :
    (after (.sfxWvol0 0x01#8 0#32) State.reset).sfx.sfxVol = ⟨1#3, 7#3, 7#3⟩ ∧
    (after (.sfxWvol2 0x00#8 0#32) State.reset).sfx.sfxVol = ⟨7#3, 7#3, 0#3⟩ := by decide

/-- 45 R176, worked example. -/
theorem test_wctl : (after (.sfxWctl 0x02#8 0#32) State.reset).sfx.sfxControl = 0x02#8 := by decide

/-- V-MIX-1, tone channel 1 alone: high for samples 5 to 9; its end phase. -/
theorem test_render_tone :
    (after (.render 12#32) toneOne).samples =
      [0#16, 0#16, 0#16, 0#16, 0#16, 2340#16, 2340#16, 2340#16, 2340#16, 2340#16, 0#16, 0#16] ∧
    (after (.render 12#32) toneOne).tt.ttPhase.ch1 = 0x02495490#32 := by decide

/-- V-ORD-1, first five samples, with the phase it stops at. -/
theorem test_render_music :
    (after (.render 5#32) musicZero).samples = [0#16, 0#16, 0#16, 5461#16, 5461#16] ∧
    (after (.render 5#32) musicZero).mt.mtPhase.ch0 = 0x00CAEC11#32 := by decide

/-- V-MIX-1, the muted channel 0: one-shot advance, no sample. -/
theorem test_render_muted :
    (after (.render 12#32) (toneZero 0x82#8 0x02#8)).tt.ttPhase.ch0 = 0x04DEC0E0#32 ∧
    (after (.render 12#32) (toneZero 0x82#8 0x02#8)).samples = List.replicate 12 0#16 := by decide

/-- P4: a noisy channel with the six given pairs of draws. -/
theorem test_render_noisy :
    (render drawsP4 6 noisyTwo).samples = [5461#16, 5461#16, 5461#16, 0#16, 0#16, 5461#16] ∧
    (render drawsP4 6 noisyTwo).tt.ttPhase.ch2 = 0x031EC366#32 ∧
    (render drawsP4 6 noisyTwo).draws = ⟨0, 0, 6⟩ := by decide

/-- V-ORD-1, second row: the flush comes before the gate closes. -/
theorem test_write_flushes_first :
    (after (.mtWgate 0x00#8 5#32) musicZero).samples = [0#16, 0#16, 0#16, 5461#16, 5461#16] ∧
    (after (.mtWgate 0x00#8 5#32) musicZero).mt.mtEnabled.ch0 = false ∧
    (after (.mtWgate 0x00#8 5#32) musicZero).cursor = 5 := by decide

/-- V-BUS-6: a write that does not touch audio flushes too. -/
theorem test_port_write_flushes :
    (after (.itWpad 0x55#8 3#32) musicZero).samples = [0#16, 0#16, 0#16] ∧
    (after (.itWpad 0x55#8 3#32) musicZero).it.paOut = 0x55#8 := by decide

/-- 70 R220: reset drops the line with a call, and empties the stream. -/
theorem test_reset :
    (after .reset (withTimer (tmr .countingDown 1#2 100#8 0#18 true true true))).it = IntervalTimer.initial ∧
    (after .reset (withTimer (tmr .countingDown 1#2 100#8 0#18 true true true))).irqCalls = [true, false] := by decide

/-- 30 R61, 00_scope R8: the record issued next is performed next. -/
theorem test_step_runs_the_record :
    ∃ t, step (State.reset.withFetchWord 64 0x13A0640000000000) = .next t ∧
      t.it = tmr .countingUp 1#2 100#8 0#18 true false false ∧ t.trace = [] :=
  ⟨_, rfl, by decide, by decide⟩

/-! ### Witnesses: the hypotheses of the statements can be met -/

/-- The invariant in a state with both legs' fields in use: the first leg. -/
theorem inv_first_leg : Inv (withTimer (tmr .countingUp 1#2 100#8 799#18 true false false)) where
  structural := by decide
  structuralIn := by decide
  toneSteps := fun ch => by cases ch <;> decide
  musicSteps := fun ch => by cases ch <;> decide
  idleAtZero := by decide
  belowUpLeg := by decide
  belowDownLeg := by decide
  lineNeedsFlag := by decide
  cursorCounts := by decide

/-- The invariant in the second leg, with flag and line set. -/
theorem inv_second_leg : Inv (withTimer (tmr .countingDown 1#2 100#8 20#18 true true true)) where
  structural := by decide
  structuralIn := by decide
  toneSteps := fun ch => by cases ch <;> decide
  musicSteps := fun ch => by cases ch <;> decide
  idleAtZero := by decide
  belowUpLeg := by decide
  belowDownLeg := by decide
  lineNeedsFlag := by decide
  cursorCounts := by decide

/-- The invariant with a sounding tone channel and a sounding music channel's counts. -/
theorem inv_tone : Inv toneOne where
  structural := by decide
  structuralIn := by decide
  toneSteps := fun ch => by cases ch <;> decide
  musicSteps := fun ch => by cases ch <;> decide
  idleAtZero := by decide
  belowUpLeg := by decide
  belowDownLeg := by decide
  lineNeedsFlag := by decide
  cursorCounts := by decide

/-- The configuration with a zero sample rate. -/
def silentConfig : Config := { Config.standard with sampleRate := 0 }

/-- A programmed and enabled block under a zero sample rate. -/
def silent : State :=
  { State.initial silentConfig with
    tt := { ToneTimer.initial with ttCr := ⟨0x80#8, 0x82#8, 0#8⟩, ttCount := ⟨100#16, 213#16, 0#16⟩ }
    mt := { MusicTimer.initial with mtCount := ⟨256#16, 0#16, 0#16⟩, mtEnabled := .fill true } }

theorem inv_silent : Inv silent where
  structural := by decide
  structuralIn := by decide
  toneSteps := fun ch => by cases ch <;> decide
  musicSteps := fun ch => by cases ch <;> decide
  idleAtZero := by decide
  belowUpLeg := by decide
  belowDownLeg := by decide
  lineNeedsFlag := by decide
  cursorCounts := by decide

theorem witness_DecodeGivesBackEncodedOperation :
    (Instr.itWign 0x1B#5 0xFF#8 0xFFFFFFFF#32).wellFormed = true ∧ (Instr.itRund 0x08#5).wellFormed = true := by
  decide

theorem witness_EncodeGivesBackDecodedRecord :
    decode 0x13600000FFFFFFFF#64 = .ok (.itWign 0x1B#5 0#8 0xFFFFFFFF#32) := by rfl

/-- The record 5 is of no row, the other of one. -/
theorem witness_DecoderFollowsOpcodeTable :
    decode 0x1880000000000000#64 = .error .offset ∧ decode 0x1860000000000005#64 = .ok (.mtWgate 0#8 5#32) ∧
    (∀ r ∈ opcodeTable, r.covers 0x1880000000000000#64 = false) :=
  ⟨rfl, rfl, by decide⟩

/-- A reserved record at the head of the queue, for the second part; the clauses of the first part are met
by the records of `test_decode_refuses`. -/
theorem witness_ReservedRecordsAreRefused :
    ∃ (s : State) (w : Record) (why : Reserved), decode w = .error why ∧ s.trace = w :: [] :=
  ⟨{ State.reset with trace := [0x4000000000000001#64] }, _, .resetCount, rfl, rfl⟩

theorem witness_StepPerformsTheIssuedOperation :
    (∃ (s : State) (w : Record) (i : Instr), s.trace = w :: [] ∧ decode w = .ok i) ∧ State.reset.trace = [] :=
  ⟨⟨{ State.reset with trace := [0x200000000000012C#64] }, _, _, rfl, rfl⟩, rfl⟩

/-- The step is a tick that brings the first expiry. -/
theorem witness_StepKeepsInvariant :
    ∃ s t : State, Inv s ∧ step s = .next t ∧ t.it.itState = .countingDown :=
  ⟨{ withTimer (tmr .countingUp 1#2 100#8 799#18 true false false) with trace := [0x3000000000000001#64] }, _,
    { inv_first_leg with }, rfl, by decide⟩

theorem witness_StepKeepsCallsOnChangesOnly :
    ∃ s t : State, CallsFollowLine s ∧ s.it.irqLine = true ∧ step s = .next t ∧ t.irqCalls = [true, false] :=
  ⟨{ withTimer (tmr .countingDown 1#2 100#8 20#18 true true true) with trace := [0x00A0000000000000#64] }, _,
    ⟨by decide, by decide⟩, by decide, rfl, by decide⟩

theorem witness_ZeroSampleRateIsSilent :
    Inv silent ∧ silent.cfg.sampleRate = 0 ∧ silent.tt.ttPhase = .fill 0#32 ∧ silent.mt.mtPhase = .fill 0#32 ∧
      Instr.render 4#32 ≠ .reset ∧ toneEnabled silent .ch0 = true ∧ toneNoisy silent .ch0 = true :=
  ⟨inv_silent, by decide, by decide, by decide, by decide, by decide, by decide⟩

theorem witness_AdvanceAddsThenTestsTheSum :
    ∃ p st : Phase, (advance p st 24).2 = true ∧ (advance p st 23).2 = false :=
  ⟨0x00FFFFFF#32, 1#32, by decide, by decide⟩

/-- Both cases, the second one at the ends of the range of counts, under the default rounding. -/
theorem witness_FreqStepIsTheNearestQuotient :
    Config.standard.Structural ∧ Config.standard.stepRound = .nearest ∧ Config.standard.sampleRate ≠ 0 ∧
    1#16 ≠ 0#16 ∧ 0xFFFF#16 ≠ 0#16 ∧ silentConfig.Structural ∧ silentConfig.sampleRate = 0 ∧
    ({ Config.standard with stepRound := .within1 } : Config).Structural := by decide

theorem witness_NoiseClockSelection :
    (0xFE#8).getLsbD 0 = false ∧ (0x01#8).getLsbD 0 = true ∧ 1#16 ≠ 0#16 := by decide

theorem witness_AverageStepIsTheNearestQuotient :
    Config.standard.Structural ∧ Config.standard.sampleRate ≠ 0 ∧ silentConfig.sampleRate = 0 ∧
    silentConfig.Structural ∧ (noiseFreq Config.standard 0x01#8 0#16).1 = 0 ∧
    (noiseFreq Config.standard 0x01#8 100#16).1 ≠ 0 ∧ (noiseFreq Config.standard 0x01#8 100#16).2 ≠ 0 := by decide

/-- The largest average step of the spec's parameters, and the ends of the range of sums. -/
theorem witness_NoiseIncrementMeanAndTriangle :
    (5195#32).toNat * 65534 < 2 ^ 32 ∧ (32767 : Nat) ≤ 32767 ∧ (0 : Nat) ≤ 65534 ∧ (65534 : Nat) ≤ 65534 := by
  decide

theorem witness_LoadStartsTheFirstLeg :
    (∃ p ∈ loadPorts, p.2.2 = true) ∧ (∃ p ∈ loadPorts, p.2.2 = false) ∧ 1#8 ≠ 0#8 ∧ 255#8 ≠ 0#8 :=
  ⟨⟨(.itLd1i, 0#2, true), by simp [loadPorts], rfl⟩, ⟨(.itLd1k, 3#2, false), by simp [loadPorts], rfl⟩,
    by decide, by decide⟩

theorem witness_LoadOfZeroExpiresAtOnce :
    (∃ p ∈ loadPorts, p.2.2 = true) ∧ (∃ p ∈ loadPorts, p.2.2 = false) :=
  ⟨⟨(.itLd64i, 2#2, true), by simp [loadPorts], rfl⟩, ⟨(.itLd8, 1#2, false), by simp [loadPorts], rfl⟩⟩

theorem witness_AdvanceEqualsItsClosedForm :
    Inv (withTimer (tmr .countingUp 1#2 100#8 799#18 true false false)) ∧
    Inv (withTimer (tmr .countingDown 1#2 100#8 20#18 true true true)) :=
  ⟨inv_first_leg, inv_second_leg⟩

/-- The largest pair of counts. -/
theorem witness_AdvanceComposes : (0xFFFFFFFF#32).toNat + (0#32).toNat < 2 ^ 32 := by decide

/-- The last tick before the expiry and the tick of the expiry, for the shortest and the longest first leg. -/
theorem witness_LoadExpiresExactlyOnTime :
    State.reset.cfg.Structural ∧ 1#8 ≠ 0#8 ∧ 255#8 ≠ 0#8 ∧
    (∃ p ∈ loadPorts, (0#32).toNat < divider State.reset.cfg p.2.1 * (1#8).toNat ∧
      (1#32).toNat = divider State.reset.cfg p.2.1 * (1#8).toNat) ∧
    (∃ p ∈ loadPorts, (261119#32).toNat < divider State.reset.cfg p.2.1 * (255#8).toNat ∧
      (261120#32).toNat = divider State.reset.cfg p.2.1 * (255#8).toNat) :=
  ⟨by decide, by decide, by decide,
    ⟨(.itLd1, 0#2, false), by simp [loadPorts], by decide, by decide⟩,
    ⟨(.itLd1ki, 3#2, true), by simp [loadPorts], by decide, by decide⟩⟩

theorem witness_CounterReadReportsTheLeg :
    Inv (withTimer (tmr .countingUp 1#2 100#8 799#18 true false false)) ∧
    Inv (withTimer (tmr .countingDown 1#2 100#8 20#18 true true true)) ∧
    Inv toneOne ∧ toneOne.it.itState = .idle :=
  ⟨inv_first_leg, inv_second_leg, inv_tone, by decide⟩

theorem witness_FlagReadReturnsAndClears :
    State.reset.cfg.itFlagBit = 7 ∧
    (withTimer (tmr .countingDown 1#2 100#8 20#18 true true true)).cfg.itFlagBit = 7 := by decide

/-- Each change of a bit happens: the enable by a load; the flag up by a tick and by a load of zero, down by a
flag read and by a load with the enable off; the line up by a tick, down by the two reads and a load. -/
theorem witness_InterruptBitsChangeOnlyAsListed :
    let up := withTimer (tmr .countingUp 1#2 100#8 799#18 true false false)
    let down := withTimer (tmr .countingDown 1#2 100#8 0#18 true true true)
    (∃ t, exec (.itLd1i 1#8 0#32) State.reset = .next t ∧ t.it.irqEnabled ≠ State.reset.it.irqEnabled) ∧
    (∃ t, exec (.itAdv 1#32) up = .next t ∧ up.it.irqFlag = false ∧ t.it.irqFlag = true ∧
      up.it.irqLine = false ∧ t.it.irqLine = true) ∧
    (∃ t, exec (.itLd1i 0#8 0#32) State.reset = .next t ∧ t.it.irqFlag = true ∧ t.it.irqLine = true) ∧
    (∃ t, exec (.itRflg true) down = .next t ∧ down.it.irqFlag = true ∧ t.it.irqFlag = false ∧
      down.it.irqLine = true ∧ t.it.irqLine = false) ∧
    (∃ t, exec (.itLd1 1#8 0#32) down = .next t ∧ t.it.irqFlag = false ∧ t.it.irqLine = false) ∧
    (∃ t, exec (.itRcnt true) down = .next t ∧ t.it.irqLine = false) := by
  refine ⟨⟨_, rfl, ?_⟩, ⟨_, rfl, ?_⟩, ⟨_, rfl, ?_⟩, ⟨_, rfl, ?_⟩, ⟨_, rfl, ?_⟩, ⟨_, rfl, ?_⟩⟩ <;> decide

/-- Each transition happens. -/
theorem witness_TimerStateChangesOnlyAsListed :
    let up := withTimer (tmr .countingUp 1#2 100#8 799#18 true false false)
    let last := withTimer (tmr .countingDown 1#2 100#8 2039#18 true true true)
    (∃ t, exec (.itLd1 1#8 0#32) State.reset = .next t ∧ t.it.itState = .countingUp) ∧
    (∃ t, exec (.itAdv 1#32) up = .next t ∧ t.it.itState = .countingDown) ∧
    (∃ t, exec (.itLd1 0#8 0#32) State.reset = .next t ∧ t.it.itState = .countingDown) ∧
    (∃ t, exec (.itAdv 1#32) last = .next t ∧ t.it.itState = .idle) ∧
    (∃ t, exec (.itLd1 1#8 0#32) last = .next t ∧ t.it.itState = .countingUp) := by
  refine ⟨⟨_, rfl, ?_⟩, ⟨_, rfl, ?_⟩, ⟨_, rfl, ?_⟩, ⟨_, rfl, ?_⟩, ⟨_, rfl, ?_⟩⟩ <;> decide

theorem witness_ToneControlWritesTheirRegister :
    ∃ s : State, s.tt.ttCr.ch1.getLsbD 0 = true ∧ State.reset.tt.ttCr.ch1.getLsbD 0 = false :=
  ⟨{ State.reset with tt := { ToneTimer.initial with ttCr := ⟨0#8, 0x83#8, 0#8⟩ } }, by decide, by decide⟩

/-- A commit that enables the channel and one, of count 0, that does not. -/
theorem witness_ToneCommitSetsCountAndStep :
    (∃ p ∈ toneCommits, p.2 = .ch1) ∧ (toneOne.tt.ttCr.get .ch1).getLsbD 7 = true ∧
    toneOne.tt.ttMsb.toNat * 256 + (213#8).toNat ≠ 0 ∧ toneOne.tt.ttMsb.toNat * 256 + (0#8).toNat = 0 :=
  ⟨⟨(.ttWlsb1, .ch1), by simp [toneCommits], rfl⟩, by decide, by decide, by decide⟩

theorem witness_ToneEnabledAndNoisyFollowRegisters :
    (toneOne.tt.ttCr.get .ch1).getLsbD 7 = true ∧ toneOne.tt.ttCount.get .ch1 ≠ 0#16 ∧
    (noisyTwo.tt.ttCr.get .ch2).getLsbD 1 = false := by decide

theorem witness_ToneControlAndCountWritesCommute : ∃ p ∈ toneCommits, p.2 = .ch0 :=
  ⟨(.ttWlsb0, .ch0), by simp [toneCommits], rfl⟩

theorem witness_PseudoOperationsReachTheirTarget : State.reset.mt.mtToggle.get .ch2 = false := by decide

theorem witness_MusicCountWritesAlternate :
    (∃ p ∈ musicCounts, p.2 = .ch2) ∧ State.reset.mt.mtToggle.get .ch2 = false ∧
    ∃ s : State, s.mt.mtToggle.get .ch2 = true :=
  ⟨⟨(.mtWcnt2, .ch2), by simp [musicCounts], rfl⟩, by decide,
    { State.reset with mt := { MusicTimer.initial with mtToggle := .fill true } }, by decide⟩

theorem witness_MusicCountIsTheLastPair :
    (∃ p ∈ musicCounts, p.2 = .ch1) ∧ State.reset.mt.mtToggle.get .ch1 = false :=
  ⟨⟨(.mtWcnt1, .ch1), by simp [musicCounts], rfl⟩, by decide⟩

/-- A byte at each end of each range of indices, and the default place of the field. -/
theorem witness_GateWritesOneEnable :
    State.reset.cfg.mtGateLsb = 1 ∧ (0x00#8).toNat / 64 = 0 ∧ (0x3F#8).toNat / 64 = 0 ∧
    (0x40#8).toNat / 64 = 1 ∧ (0x7F#8).toNat / 64 = 1 ∧ (0x80#8).toNat / 64 = 2 ∧ (0xBF#8).toNat / 64 = 2 ∧
    (0xC0#8).toNat / 64 = 3 ∧ (0xFF#8).toNat / 64 = 3 := by decide

theorem witness_VolumeWriteStoresTheField :
    (∃ p ∈ volumeWrites, p.2 = .ch2) ∧ State.reset.cfg.volLsb = 0 ∧ State.reset.cfg.baseVolume = 5461 :=
  ⟨⟨(.sfxWvol2, .ch2), by simp [volumeWrites], rfl⟩, by decide, by decide⟩

/-- A block built with two tone channels and two music channels. -/
def fewerConfig : Config := { Config.standard with nTone := 2, nMusic := 2 }

/-- 00_scope R5: a channel beyond the configured count is silent although its registers enable it. -/
theorem test_render_beyond_count :
    (render drawsP4 6 { noisyTwo with cfg := fewerConfig }).samples = List.replicate 6 0#16 ∧
    (render drawsP4 6 { noisyTwo with cfg := fewerConfig }).tt = noisyTwo.tt := by decide

/-- 00_scope R5: a smaller `RAND_MAX15` bounds the draws; 41 R94: a draw within the range is taken as it is. -/
theorem test_drawn : drawn { Config.standard with randMax15 := 7 } drawsP4 .ch2 0 ≤ 7 ∧
    drawn Config.standard drawsP4 .ch2 0 = 32767 ∧ drawn Config.standard drawsP4 .ch2 6 = 20000 := by decide

/-- A disabled tone channel, a disabled music channel, channels beyond the count, a noisy channel that sounds. -/
theorem witness_RenderWritesOnlyPhasesAndStream :
    toneEnabled toneOne .ch0 = false ∧ toneOne.mt.mtEnabled.get .ch0 = false ∧
    fewerConfig.nTone ≤ Chan.index .ch2 ∧ fewerConfig.nMusic ≤ Chan.index .ch2 ∧
    (toneAudible noisyTwo .ch2 && toneNoisy noisyTwo .ch2) = true := by decide

theorem witness_PureToneSampleBySample :
    toneOne.cfg.toneBit = 24 ∧ toneAudible toneOne .ch1 = true ∧ toneNoisy toneOne .ch1 = false := by decide

theorem witness_NoisyToneSampleBySample :
    noisyTwo.cfg.toneBit = 24 ∧ toneAudible noisyTwo .ch2 = true ∧ toneNoisy noisyTwo .ch2 = true := by decide

theorem witness_MusicSampleBySample :
    musicZero.cfg.musicBit = 23 ∧ musicZero.mt.mtEnabled.get .ch0 = true := by decide

/-- A pure and a noisy muted channel 0. -/
theorem witness_MutedChannelZeroRunsSilently :
    0 < (toneZero 0x82#8 0x02#8).cfg.nTone ∧ 0 < (toneZero 0x80#8 0x03#8).cfg.nTone ∧
    (toneEnabled (toneZero 0x82#8 0x02#8) .ch0 = true ∧ (toneZero 0x82#8 0x02#8).sfx.sfxControl.getLsbD 1 = true) ∧
    (toneEnabled (toneZero 0x80#8 0x03#8) .ch0 = true ∧ (toneZero 0x80#8 0x03#8).sfx.sfxControl.getLsbD 1 = true ∧
      toneNoisy (toneZero 0x80#8 0x03#8) .ch0 = true) := by decide

/-- A count alone, and a control byte alone, leave a tone channel disabled. -/
theorem witness_DisabledChannelsAreNotWalked :
    allDisabled State.reset ∧ toneEnabled toneOne .ch0 = false ∧ musicZero.mt.mtEnabled.get .ch1 = false ∧
    toneEnabled (toneZero 0x02#8 0x00#8) .ch0 = false :=
  ⟨fun ch => by cases ch <;> decide, by decide, by decide, by decide⟩

theorem witness_RenderEmitsTheSumOfHighChannels :
    toneAudible toneOne .ch1 = true ∧ toneAudible noisyTwo .ch2 = true ∧
    musicAudible musicZero .ch0 = true := by decide

theorem witness_SamplesNeverOverflow : toneOne.cfg.Structural := by decide

theorem witness_RenderSplitsAnywhere : (0xFFFFFFFE#32).toNat + (1#32).toNat < 2 ^ 32 := by decide

/-- A sounding pure channel; and a noisy channel 0 that is muted. -/
theorem witness_RenderWithoutNoiseIgnoresDraws :
    (∀ ch, toneAudible toneOne ch = true → toneNoisy toneOne ch = false) ∧ toneAudible toneOne .ch1 = true ∧
    (∀ ch, toneAudible (toneZero 0x80#8 0x02#8) ch = true → toneNoisy (toneZero 0x80#8 0x02#8) ch = false) ∧
    toneNoisy (toneZero 0x80#8 0x02#8) .ch0 = true :=
  ⟨fun ch => by cases ch <;> decide, by decide, fun ch => by cases ch <;> decide, by decide⟩

theorem witness_WriteFlushesThenActs :
    (Instr.mtWgate 0#8 5#32).isWrite = true ∧ (Instr.mtWgate 0#8 5#32).rendered = 5#32 ∧
    (Instr.itWign 0x10#5 0#8 5#32).isWrite = true := by decide

/-- The setting of V-ORD-1: `k = 5` and 11 samples more; the channel sounds in samples 3 and 4 before the write
and would sound in samples 5 and 15 after it. -/
theorem witness_GateOffIsSampleAccurate :
    gateChannel 0x00#8 = some .ch0 ∧ gateField musicZero.cfg 0x00#8 = 0#3 ∧
    (5#32).toNat + (11#32).toNat < 2 ^ 32 ∧ musicZero.mt.mtEnabled.get .ch0 = true ∧
    3 < (5#32).toNat ∧ musicShare musicZero .ch0 3 ≠ 0 ∧ 4 < (5#32).toNat ∧ musicShare musicZero .ch0 4 ≠ 0 ∧
    (5#32).toNat ≤ 5 ∧ musicShare musicZero .ch0 5 ≠ 0 ∧ 15 < (5#32).toNat + (11#32).toNat ∧
    musicShare musicZero .ch0 15 ≠ 0 := by decide

theorem witness_ReadsChangeOnlyInterruptBits :
    (Instr.itRflg false).isRead = true ∧ (Instr.itRcnt true).isRead = true ∧ Instr.itRpad.isRead = true ∧
    (∀ al, Instr.itRpad ≠ .itRflg al) ∧ (∀ al, Instr.itRpad ≠ .itRcnt al) ∧
    (∀ al, Instr.itRcnt true ≠ .itRflg al) := by decide

/-- An operation that renders and one that does not. -/
theorem witness_OnlyRenderingMovesPhasesAndCursor :
    (∃ t, exec (.mtWgate 0#8 5#32) musicZero = .next t ∧ t.cursor = 5) ∧
    (∃ t, exec (.itAdv 1#32) musicZero = .next t) ∧ Instr.itAdv 1#32 ≠ .reset ∧
    (Instr.itAdv 1#32).rendered = 0#32 :=
  ⟨⟨_, rfl, by decide⟩, ⟨_, rfl⟩, by decide, by decide⟩

/-- An operation of each unit, `RENDER` and `IT.ADV`, which meet the four premises in turn. -/
theorem witness_UnitsKeepApart :
    (∃ t, exec (.ttWmc 0x82#8 0#32) State.reset = .next t) ∧ (Instr.ttWmc 0x82#8 0#32).fields.unitSel ≠ 0#2 ∧
    (∃ t, exec (.sfxWctl 0x02#8 0#32) State.reset = .next t) ∧ (Instr.sfxWctl 0x02#8 0#32).fields.unitSel ≠ 1#2 ∧
    (∃ t, exec (.itAdv 1#32) State.reset = .next t) ∧ (Instr.itAdv 1#32).fields.unitSel ≠ 2#2 ∧
    (∃ t, exec (.mtWgate 0x06#8 0#32) State.reset = .next t) ∧
    (Instr.mtWgate 0x06#8 0#32).fields.unitSel ≠ 3#2 ∧ Instr.render 1#32 ≠ .reset :=
  ⟨⟨_, rfl⟩, by decide, ⟨_, rfl⟩, by decide, ⟨_, rfl⟩, by decide, ⟨_, rfl⟩, by decide, by decide⟩

/-- `RESET` with other parameters than those in use, and a write. -/
theorem witness_ParametersChangeOnlyAtReset :
    (∃ t, exec .reset { State.reset with cfgIn := silentConfig } = .next t ∧ t.cfg.sampleRate = 0) ∧
    (∃ t, exec (.sfxWctl 0x02#8 0#32) State.reset = .next t) ∧ Instr.sfxWctl 0x02#8 0#32 ≠ .reset :=
  ⟨⟨_, rfl, by decide⟩, ⟨_, rfl⟩, by decide⟩

end Sys2Proof.Tests
end

section
/-! Proofs for 00_scope: the step and the operations over all states (O6, O7, O60). -/

namespace Sys2Proof.Machine

/-! ### The step (00_scope R8) -/

/-- A decodable record at the head of the queue is taken off and performed (log 1). -/
theorem step_of_issued {s : State} {w : Record} {rest : List Record} {i : Instr} (ht : s.trace = w :: rest)
    (hd : decode w = .ok i) : step s = exec i { s with trace := rest } := by
  simp only [step, ht, hd]

/-- With an empty queue the block waits (70 R221; log 2). -/
theorem step_of_noneIssued {s : State} (ht : s.trace = []) : step s = .next s := by
  simp only [step, ht]

/-- Settles O6: the two equations of the step, one for each form of the queue. -/
theorem stepPerformsTheIssuedOperation : Obligations.StepPerformsTheIssuedOperation :=
  fun _ => ⟨fun _ _ _ => step_of_issued, step_of_noneIssued⟩

/-- Settles O7: the meaning of each operation is `.next` of a state, a bus write's by `busWrite`. -/
theorem everyOperationAnswersANextState : Obligations.EveryOperationAnswersANextState := by
  intro i s
  cases i <;> exact ⟨_, rfl⟩

/-! ### What belongs to the environment (00_scope R5, R9) -/

/-- The parameters in use, the parameters the next `RESET` brings and the queue are the same in both states. -/
def SameEnvironment (s t : State) : Prop := t.cfg = s.cfg ∧ t.cfgIn = s.cfgIn ∧ t.trace = s.trace

theorem SameEnvironment.trans {s t u : State} (a : SameEnvironment s t) (b : SameEnvironment t u) :
    SameEnvironment s u :=
  ⟨b.1.trans a.1, b.2.1.trans a.2.1, b.2.2.trans a.2.2⟩

theorem render_sameEnvironment (draw : DrawSource) (n : Nat) (s : State) : SameEnvironment s (render draw n s) :=
  ⟨render_cfg .., render_cfgIn .., render_trace ..⟩

theorem musicCount_sameEnvironment (ch : Chan) (d : Byte) (s : State) : SameEnvironment s (musicCount ch d s) := by
  unfold musicCount
  split <;> exact ⟨rfl, rfl, rfl⟩

theorem musicGate_sameEnvironment (d : Byte) (s : State) : SameEnvironment s (musicGate d s) := by
  unfold musicGate
  split <;> exact ⟨rfl, rfl, rfl⟩

theorem readCounter_sameEnvironment (s : State) : SameEnvironment s (readCounter s) := by
  unfold readCounter
  dsimp only
  split <;> exact ⟨rfl, rfl, rfl⟩

/-- A write keeps what its mutation keeps, since the flush before it keeps the environment's part. -/
theorem busWrite_sameEnvironment {k : BitVec 32} {m : State → State} {s t : State}
    (h : busWrite k m s = .next t) (keep : ∀ u, SameEnvironment u (m u)) : SameEnvironment s t := by
  rw [busWrite_next h]
  exact (render_sameEnvironment ..).trans (keep _)

/-- `RESET` takes over the parameters supplied with it and keeps the rest of the environment's part (70 R220). -/
theorem exec_reset_environment {s t : State} (h : exec .reset s = .next t) :
    t.cfg = s.cfgIn ∧ t.cfgIn = s.cfgIn ∧ t.trace = s.trace := by
  cases h
  exact ⟨rfl, rfl, rfl⟩

/-- No operation but `RESET` writes any of the three. -/
theorem exec_sameEnvironment {i : Instr} {s t : State} (h : exec i s = .next t) (hi : i ≠ .reset) :
    SameEnvironment s t := by
  cases i with
  | itWpad | itWpaddr | itWpbd | itWpbddr
  | itLd1 | itLd8 | itLd64 | itLd1k | itLd1i | itLd8i | itLd64i | itLd1ki
  | ttWcr | ttWmc | ttWmsb2 | ttWmsb4 | ttWmsb6 | ttWlsb0 | ttWlsb1 | ttWlsb2
  | sfxWctl | sfxWvol0 | sfxWvol1 | sfxWvol2 => exact busWrite_sameEnvironment h fun _ => ⟨rfl, rfl, rfl⟩
  | mtWcnt0 | mtWcnt1 | mtWcnt2 => exact busWrite_sameEnvironment h (musicCount_sameEnvironment _ _)
  | mtWgate => exact busWrite_sameEnvironment h (musicGate_sameEnvironment _)
  | itRpad | itRpaddr | itRpbd | itRpbddr | itRflg | itRund | ttRund | mtRund | sfxRund | itAdv =>
    cases h
    exact ⟨rfl, rfl, rfl⟩
  | itRcnt =>
    cases h
    exact readCounter_sameEnvironment s
  | itWign | render =>
    cases h
    exact render_sameEnvironment ..
  | reset => exact absurd rfl hi

/-- Settles O60, by the case of `RESET` and the case of the other operations. -/
theorem parametersChangeOnlyAtReset : Obligations.ParametersChangeOnlyAtReset := by
  intro i s t h
  by_cases hi : i = .reset
  · subst hi
    obtain ⟨cfg, cfgIn, trace⟩ := exec_reset_environment h
    exact ⟨fun ne => absurd rfl ne, fun _ => cfg, cfgIn, trace⟩
  · obtain ⟨cfg, cfgIn, trace⟩ := exec_sameEnvironment h hi
    exact ⟨fun _ => cfg, fun e => absurd e hi, cfgIn, trace⟩

end Sys2Proof.Machine
end

section
/-! Proofs for 00_scope: the noise increment over all pairs of draws (O19; 41 R93 to R96). -/

namespace Sys2Proof.Machine

/-- While `AvgStep * 65534` fits 32 bits, the wrapping product of 41 R93 is the exact one. -/
theorem toNat_noiseInc {a : Phase} {r1 r2 : Nat} (h1 : r1 ≤ 32767) (h2 : r2 ≤ 32767)
    (ha : a.toNat * 65534 < 2 ^ 32) : (noiseInc a r1 r2).toNat = a.toNat * (r1 + r2) := by
  have bound : a.toNat * (r1 + r2) < 2 ^ 32 :=
    (Nat.mul_le_mul_left a.toNat (by omega : r1 + r2 ≤ 65534)).trans_lt ha
  rw [noiseInc, BitVec.toNat_mul, BitVec.toNat_ofNat, Nat.mod_eq_of_lt (by omega : r1 + r2 < 2 ^ 32),
    Nat.mod_eq_of_lt bound]

/-- The sum of two indices below `n`, over all pairs: each index contributes its mean `(n - 1) / 2` twice. -/
theorem sum_range_pairs_add (n : Nat) :
    ∑ x ∈ Finset.range n, ∑ y ∈ Finset.range n, (x + y) = n * (n * (n - 1)) := by
  calc ∑ x ∈ Finset.range n, ∑ y ∈ Finset.range n, (x + y)
      = ∑ x ∈ Finset.range n, (n * x + ∑ y ∈ Finset.range n, y) := Finset.sum_congr rfl fun x _ => by
        rw [Finset.sum_add_distrib, Finset.sum_const, Finset.card_range, smul_eq_mul]
    _ = n * ((∑ x ∈ Finset.range n, x) * 2) := by
        rw [Finset.sum_add_distrib, ← Finset.mul_sum, Finset.sum_const, Finset.card_range, smul_eq_mul]
        ring
    _ = n * (n * (n - 1)) := by rw [Finset.sum_range_id_mul_two]

/-- The pairs of indices below `n` with sum `v` are counted by a triangle that peaks at `v = n - 1`: the first
index runs over the `x < n` with `x ≤ v < x + n`. -/
theorem card_pairs_with_sum {n v : Nat} (hv : v + 2 ≤ 2 * n) :
    ((Finset.range n ×ˢ Finset.range n).filter fun p => p.1 + p.2 = v).card = min (v + 1) (2 * n - 1 - v) := by
  have firstIndex : ((Finset.range n ×ˢ Finset.range n).filter fun p => p.1 + p.2 = v).card =
      (Finset.Ico (v + 1 - n) (min (v + 1) n)).card := by
    refine Finset.card_nbij' Prod.fst (fun x => (x, v - x)) ?_ ?_ ?_ ?_
    · intro p hp
      simp only [Finset.coe_filter, Finset.mem_product, Finset.mem_range, Set.mem_ofPred_eq] at hp
      simp only [Finset.coe_Ico, Set.mem_Ico]
      omega
    · intro x hx
      simp only [Finset.coe_Ico, Set.mem_Ico] at hx
      simp only [Finset.coe_filter, Finset.mem_product, Finset.mem_range, Set.mem_ofPred_eq]
      omega
    · intro p hp
      simp only [Finset.coe_filter, Finset.mem_product, Finset.mem_range, Set.mem_ofPred_eq] at hp
      exact Prod.ext rfl (Nat.sub_eq_of_eq_add' hp.2.symm)
    · exact fun _ _ => rfl
  rw [firstIndex, Nat.card_Ico]
  omega

/-- Settles O19: the exact product makes the sum one over pairs of indices; both counts hold for every range of
draws and are taken at `RAND_MAX15 + 1 = 32768`. -/
theorem noiseIncrementMeanAndTriangle : Obligations.NoiseIncrementMeanAndTriangle := by
  refine ⟨fun _ _ _ => toNat_noiseInc, fun a ha => ?_, fun v hv => ?_⟩
  · have exact_product : ∀ x ∈ Finset.range 32768, ∀ y ∈ Finset.range 32768,
        (noiseInc a x y).toNat = a.toNat * (x + y) := fun x hx y hy =>
      toNat_noiseInc (Nat.le_of_lt_succ (Finset.mem_range.mp hx)) (Nat.le_of_lt_succ (Finset.mem_range.mp hy)) ha
    rw [Finset.sum_congr rfl fun x hx => Finset.sum_congr rfl (exact_product x hx)]
    simp only [← Finset.mul_sum]
    rw [sum_range_pairs_add]
    ring
  · rw [card_pairs_with_sum (by omega)]

end Sys2Proof.Machine
end

section
/-! Proofs for 00_scope: one channel walked over a buffer (45 R165, inner loop), and a noisy tone channel sample by
sample (O46). -/

namespace Sys2Proof

/-- The triple of a function's three values. -/
def Trio.ofFn {α : Type} (f : Chan → α) : Trio α := ⟨f .ch0, f .ch1, f .ch2⟩

@[simp] theorem Trio.get_ofFn {α : Type} (f : Chan → α) (ch : Chan) : (Trio.ofFn f).get ch = f ch := by
  cases ch <;> rfl

@[simp] theorem Trio.set_get {α : Type} (x : Trio α) (ch : Chan) : x.set ch (x.get ch) = x := by
  cases ch <;> rfl

@[simp] theorem Trio.set_set {α : Type} (x : Trio α) (ch : Chan) (v w : α) :
    (x.set ch v).set ch w = x.set ch w := by
  cases ch <;> rfl

end Sys2Proof

namespace Sys2Proof.Machine

/-! ### One channel over a buffer -/

/-- The samples `f 0, …, f (n - 1)`, each kept in 16 bits (45 R175). -/
def buffer (f : Nat → Nat) (n : Nat) : List Sample := (List.range n).map fun i => BitVec.ofNat 16 (f i)

/-- The zeroed buffer of step 1 (45 R165). -/
theorem replicate_eq_buffer (n : Nat) : List.replicate n 0#16 = buffer (fun _ => 0) n := by
  simp [buffer, List.map_const']

@[simp] theorem length_buffer (f : Nat → Nat) (n : Nat) : (buffer f n).length = n := by simp [buffer]

/-- A channel whose phase after `i` samples is `q i` ends at the last of them and adds its volume to the samples
after which the tested bit is high. -/
theorem walk_of_phases {hb : Nat} {v : Sample} {inc : Nat → Phase} (bs : List Sample) :
    ∀ {j : Nat} {q : Nat → Phase}, (∀ i, q (i + 1) = q i + inc (j + i)) →
      walk hb v inc j bs (q 0) =
        (q bs.length, bs.mapIdx fun i b => if (q (i + 1)).getLsbD hb then b + v else b) := by
  induction bs with
  | nil => intros; rfl
  | cons b bs ih =>
    intro j q hq
    have tail : ∀ i, q (i + 1 + 1) = q (i + 1) + inc (j + 1 + i) := fun i => by
      rw [hq (i + 1), Nat.add_right_comm j 1 i, Nat.add_assoc j i 1]
    have head : q 0 + inc j = q 1 := (hq 0).symm
    rw [walk_cons, head, ih (q := fun i => q (i + 1)) tail, List.mapIdx_cons, List.length_cons]

/-- The same over a buffer of exact values, to which the volume is added exactly. -/
theorem walk_buffer {hb : Nat} {v : Sample} {inc : Nat → Phase} {j : Nat} {q : Nat → Phase}
    (hq : ∀ i, q (i + 1) = q i + inc (j + i)) (f : Nat → Nat) (n : Nat) :
    walk hb v inc j (buffer f n) (q 0) =
      (q n, buffer (fun i => f i + if (q (i + 1)).getLsbD hb then v.toNat else 0) n) := by
  rw [walk_of_phases _ hq, length_buffer]
  congr 1
  apply List.ext_getElem (by simp)
  intro i _ _
  simp only [buffer, List.getElem_mapIdx, List.getElem_map, List.getElem_range]
  split
  · rw [BitVec.ofNat_add, BitVec.ofNat_toNat, BitVec.setWidth_eq]
  · rfl

/-! ### The channels that sound -/

/-- A tone channel sounds when it exists, is enabled, and is not the muted channel 0. -/
theorem toneAudible_iff (s : State) (ch : Chan) :
    toneAudible s ch = true ↔
      toneExists s ch = true ∧ toneEnabled s ch = true ∧
        ¬(ch = .ch0 ∧ channel0Mute s.sfx.sfxControl = true) := by
  simp [toneAudible, and_assoc, imp_iff_not_or]

/-- A sounding noisy channel is walked with draws (45 R170). -/
theorem renderTone_noisy (draw : DrawSource) (nf : Nat × Nat) {s : State} {ch : Chan} (bs : List Sample)
    (ha : toneAudible s ch = true) (hn : toneNoisy s ch = true) :
    renderTone draw nf ch (s, bs) = walkNoisy draw nf ch (s, bs) := by
  obtain ⟨_, enabled, unmuted⟩ := (toneAudible_iff s ch).mp ha
  rw [renderTone, if_pos enabled, if_neg unmuted, if_pos hn]

/-- A sounding pure channel is walked with its own step (45 R168). -/
theorem renderTone_pure (draw : DrawSource) (nf : Nat × Nat) {s : State} {ch : Chan} (bs : List Sample)
    (ha : toneAudible s ch = true) (hn : toneNoisy s ch = false) :
    renderTone draw nf ch (s, bs) = walkPure ch (s, bs) := by
  obtain ⟨_, enabled, unmuted⟩ := (toneAudible_iff s ch).mp ha
  rw [renderTone, if_pos enabled, if_neg unmuted, if_neg (ne_true_of_eq_false hn)]

/-! ### A noisy channel, sample by sample (45 R170) -/

@[simp] theorem setTonePhase_get (s : State) (ch : Chan) : setTonePhase ch (s.tt.ttPhase.get ch) s = s := by
  simp [setTonePhase]

theorem walkNoisy_nil (draw : DrawSource) (nf : Nat × Nat) (ch : Chan) (s : State) :
    walkNoisy draw nf ch (s, []) = (s, []) := by
  simp [walkNoisy]

/-- One sample of a noisy channel, then the rest of the buffer from the state that the sample leaves. -/
theorem walkNoisy_cons (draw : DrawSource) (nf : Nat × Nat) (ch : Chan) (s : State) (b : Sample)
    (bs : List Sample) {p : Phase}
    (hp : p = s.tt.ttPhase.get ch +
      noiseIncAt s.cfg draw (avgStep s.cfg nf (s.tt.ttCount.get ch)) ch (s.draws.get ch)) :
    walkNoisy draw nf ch (s, b :: bs) =
      (let r := walkNoisy draw nf ch ({ setTonePhase ch p s with draws := s.draws.set ch (s.draws.get ch + 1) }, bs)
       (r.1, (if p.getLsbD s.cfg.toneBit then b + toneVolume s ch else b) :: r.2)) := by
  subst hp
  simp [walkNoisy, walk_cons, setTonePhase, toneVolume, Nat.add_assoc, Nat.add_comm 1]

/-- Settles O46: a sounding noisy channel is walked by `walkNoisy`, whose two equations are the statement. -/
theorem noisyToneSampleBySample : Obligations.NoisyToneSampleBySample := by
  intro draw nf s ch b bs bit audible noisy
  refine ⟨_, _, _, _, rfl, rfl, rfl, rfl, ?_, ?_⟩
  · rw [renderTone_noisy draw nf [] audible noisy, walkNoisy_nil]
  · rw [renderTone_noisy draw nf (b :: bs) audible noisy, walkNoisy_cons draw nf ch s b bs rfl, bit,
      renderTone_noisy draw nf bs]
    exacts [rfl, audible, noisy]

end Sys2Proof.Machine
end

section
/-! Proofs for 00_scope: a rendering in closed form (45 R165 to R172), and O43 and O50 read off it. -/

namespace Sys2Proof.Machine

/-! ### Where a rendering leaves each channel -/

/-- The phase of a tone channel after a rendering of `n` samples: a sounding one runs through its samples, the
muted channel 0 takes one addition (45 R169), the others keep theirs (45 R172). -/
def tonePhaseEnd (draw : DrawSource) (n : Nat) (s : State) (ch : Chan) : Phase :=
  if toneAudible s ch then tonePhaseAfter draw s ch n
  else if toneExists s ch && toneEnabled s ch then s.tt.ttPhase.get ch + BitVec.ofNat 32 n * s.tt.ttStep.get ch
  else s.tt.ttPhase.get ch

/-- The count of draws of a tone channel after a rendering of `n` samples. -/
def drawsEnd (n : Nat) (s : State) (ch : Chan) : Nat :=
  if toneAudible s ch && toneNoisy s ch then s.draws.get ch + n else s.draws.get ch

/-- The phase of a music channel after a rendering of `n` samples (45 R171, R172). -/
def musicPhaseEnd (n : Nat) (s : State) (ch : Chan) : Phase :=
  if musicAudible s ch then musicPhaseAfter s ch n else s.mt.mtPhase.get ch

/-- What a rendering does to tone channel `ch` alone. -/
def moveTone (draw : DrawSource) (n : Nat) (ch : Chan) (s : State) : State :=
  { setTonePhase ch (tonePhaseEnd draw n s ch) s with draws := s.draws.set ch (drawsEnd n s ch) }

/-- What a rendering does to music channel `ch` alone. -/
def moveMusic (n : Nat) (ch : Chan) (s : State) : State := setMusicPhase ch (musicPhaseEnd n s ch) s

/-! ### One channel's step -/

theorem buffer_congr {f g : Nat → Nat} (h : ∀ i, f i = g i) (n : Nat) : buffer f n = buffer g n :=
  congrArg (buffer · n) (funext h)

theorem toneShare_of_audible {draw : DrawSource} {s : State} {ch : Chan} (ha : toneAudible s ch = true) (i : Nat) :
    toneShare draw s ch i =
      if (tonePhaseAfter draw s ch (i + 1)).getLsbD s.cfg.toneBit then (toneVolume s ch).toNat else 0 := by
  rw [toneShare, ha, Bool.true_and]

theorem toneShare_of_silent {draw : DrawSource} {s : State} {ch : Chan} (ha : toneAudible s ch = false) (i : Nat) :
    toneShare draw s ch i = 0 := by
  rw [toneShare, ha, Bool.false_and, if_neg Bool.false_ne_true]

theorem musicShare_of_audible {s : State} {ch : Chan} (ha : musicAudible s ch = true) (i : Nat) :
    musicShare s ch i =
      if (musicPhaseAfter s ch (i + 1)).getLsbD s.cfg.musicBit then (musicVolume s).toNat else 0 := by
  rw [musicShare, ha, Bool.true_and]

theorem musicShare_of_silent {s : State} {ch : Chan} (ha : musicAudible s ch = false) (i : Nat) :
    musicShare s ch i = 0 := by
  rw [musicShare, ha, Bool.false_and, if_neg Bool.false_ne_true]

/-- A tone channel that does not sound passes the buffer on and keeps its draws; the muted channel 0 moves. -/
theorem moveTone_of_silent {draw : DrawSource} {n : Nat} {s : State} {ch : Chan} (ha : toneAudible s ch = false) :
    moveTone draw n ch s =
      if toneExists s ch && toneEnabled s ch then
        setTonePhase ch (s.tt.ttPhase.get ch + BitVec.ofNat 32 n * s.tt.ttStep.get ch) s
      else s := by
  have kept : drawsEnd n s ch = s.draws.get ch := by simp [drawsEnd, ha]
  rw [moveTone, kept, Trio.set_get, tonePhaseEnd, ha, if_neg Bool.false_ne_true]
  split
  · rfl
  · exact setTonePhase_get s ch

/-- A noisy channel over a buffer of exact values. -/
theorem walkNoisy_buffer {draw : DrawSource} {s : State} {ch : Chan} (hn : toneNoisy s ch = true)
    (f : Nat → Nat) (n : Nat) :
    walkNoisy draw (noiseFreq s.cfg s.sfx.sfxControl s.tt.ttCount.ch0) ch (s, buffer f n) =
      ({ setTonePhase ch (tonePhaseAfter draw s ch n) s with draws := s.draws.set ch (s.draws.get ch + n) },
        buffer (fun i => f i +
          if (tonePhaseAfter draw s ch (i + 1)).getLsbD s.cfg.toneBit then (toneVolume s ch).toNat else 0) n) := by
  have step : ∀ i, tonePhaseAfter draw s ch (i + 1) = tonePhaseAfter draw s ch i +
      noiseIncAt s.cfg draw (avgStep s.cfg (noiseFreq s.cfg s.sfx.sfxControl s.tt.ttCount.ch0)
        (s.tt.ttCount.get ch)) ch (s.draws.get ch + i) := fun i => by
    rw [tonePhaseAfter, toneIncrement, if_pos hn]
  have walked := walk_buffer (hb := s.cfg.toneBit) (v := toneVolume s ch) step f n
  rw [show tonePhaseAfter draw s ch 0 = s.tt.ttPhase.get ch from rfl] at walked
  simp only [walkNoisy, walked, length_buffer]

/-- A pure channel over a buffer of exact values. -/
theorem walkPure_buffer (draw : DrawSource) {s : State} {ch : Chan} (hn : toneNoisy s ch = false)
    (f : Nat → Nat) (n : Nat) :
    walkPure ch (s, buffer f n) =
      (setTonePhase ch (tonePhaseAfter draw s ch n) s,
        buffer (fun i => f i +
          if (tonePhaseAfter draw s ch (i + 1)).getLsbD s.cfg.toneBit then (toneVolume s ch).toNat else 0) n) := by
  have step : ∀ i, tonePhaseAfter draw s ch (i + 1) = tonePhaseAfter draw s ch i + s.tt.ttStep.get ch := fun i => by
    rw [tonePhaseAfter, toneIncrement, if_neg (ne_true_of_eq_false hn)]
  have walked := walk_buffer (hb := s.cfg.toneBit) (v := toneVolume s ch) (j := 0)
    (inc := fun _ => s.tt.ttStep.get ch) step f n
  rw [show tonePhaseAfter draw s ch 0 = s.tt.ttPhase.get ch from rfl] at walked
  simp only [walkPure, walked]

/-- A tone channel that exists and does not sound: it is disabled, or it is the muted channel 0 (45 R169, R172). -/
theorem renderTone_silent (draw : DrawSource) (nf : Nat × Nat) {s : State} {ch : Chan} (bs : List Sample)
    (he : toneExists s ch = true) (ha : toneAudible s ch = false) :
    renderTone draw nf ch (s, bs) =
      (if toneEnabled s ch then
        setTonePhase ch (s.tt.ttPhase.get ch + BitVec.ofNat 32 bs.length * s.tt.ttStep.get ch) s
       else s, bs) := by
  unfold renderTone
  dsimp only
  split
  case isFalse => rfl
  case isTrue enabled =>
    have muted : ch = .ch0 ∧ channel0Mute s.sfx.sfxControl = true := by
      by_contra unmuted
      exact ne_true_of_eq_false ha ((toneAudible_iff s ch).mpr ⟨he, enabled, unmuted⟩)
    rw [if_pos muted, muted.1]
    rfl

/-- Tone channel `ch` in step 3 of 45 R165, passed over where it does not exist: the channel moves and its
share is added to every sample. -/
theorem toneStep_eq (draw : DrawSource) (ch : Chan) (n : Nat) (s : State) (f : Nat → Nat) :
    (if ch.index < s.cfg.nTone then
      renderTone draw (noiseFreq s.cfg s.sfx.sfxControl s.tt.ttCount.ch0) ch (s, buffer f n)
     else (s, buffer f n)) =
    (moveTone draw n ch s, buffer (fun i => f i + toneShare draw s ch i) n) := by
  cases ha : toneAudible s ch
  case true =>
    obtain ⟨present, -, -⟩ := (toneAudible_iff s ch).mp ha
    rw [if_pos (of_decide_eq_true present), buffer_congr fun i => congrArg (f i + ·) (toneShare_of_audible ha i),
      moveTone, tonePhaseEnd, if_pos ha, drawsEnd, ha, Bool.true_and]
    cases hn : toneNoisy s ch
    case true => rw [renderTone_noisy _ _ _ ha hn, walkNoisy_buffer hn, if_pos rfl]
    case false =>
      rw [renderTone_pure _ _ _ ha hn, walkPure_buffer draw hn, if_neg Bool.false_ne_true, Trio.set_get]
      rfl
  case false =>
    rw [buffer_congr fun i => congrArg (f i + ·) (toneShare_of_silent ha i), moveTone_of_silent ha]
    cases present : toneExists s ch
    case true =>
      rw [if_pos (of_decide_eq_true present), renderTone_silent _ _ _ present ha, length_buffer, Bool.true_and]
      rfl
    case false =>
      rw [if_neg (of_decide_eq_false present), Bool.false_and, if_neg Bool.false_ne_true]
      rfl

/-- The phases of a music channel are an arithmetic progression (45 R171; 40 R87). -/
theorem musicPhaseAfter_succ (s : State) (ch : Chan) (i : Nat) :
    musicPhaseAfter s ch (i + 1) = musicPhaseAfter s ch i + s.mt.mtStep.get ch := by
  rw [musicPhaseAfter, musicPhaseAfter, BitVec.ofNat_add, BitVec.add_mul, BitVec.one_mul, BitVec.add_assoc]

@[simp] theorem musicPhaseAfter_zero (s : State) (ch : Chan) : musicPhaseAfter s ch 0 = s.mt.mtPhase.get ch := by
  simp [musicPhaseAfter]

@[simp] theorem setMusicPhase_get (s : State) (ch : Chan) : setMusicPhase ch (s.mt.mtPhase.get ch) s = s := by
  simp [setMusicPhase]

/-- Music channel `ch` in step 4 of 45 R165, passed over where it does not exist: the channel moves and its
share is added to every sample. -/
theorem musicStep_eq (ch : Chan) (n : Nat) (s : State) (f : Nat → Nat) :
    (if ch.index < s.cfg.nMusic then renderMusic ch (s, buffer f n) else (s, buffer f n)) =
    (moveMusic n ch s, buffer (fun i => f i + musicShare s ch i) n) := by
  cases ha : musicAudible s ch
  case true =>
    obtain ⟨present, enabled⟩ := Bool.and_eq_true_iff.mp ha
    have walked := walk_buffer (hb := s.cfg.musicBit) (v := musicVolume s) (j := 0)
      (inc := fun _ => s.mt.mtStep.get ch) (musicPhaseAfter_succ s ch) f n
    rw [musicPhaseAfter_zero] at walked
    rw [if_pos (of_decide_eq_true present), buffer_congr fun i => congrArg (f i + ·) (musicShare_of_audible ha i),
      moveMusic, musicPhaseEnd, if_pos ha, renderMusic]
    simp only [enabled, if_true, walked]
  case false =>
    rw [buffer_congr fun i => congrArg (f i + ·) (musicShare_of_silent ha i), moveMusic, musicPhaseEnd, ha,
      if_neg Bool.false_ne_true, setMusicPhase_get]
    split
    case isFalse => rfl
    case isTrue present =>
      have disabled : s.mt.mtEnabled.get ch = false := by
        rw [musicAudible, musicExists, decide_eq_true present, Bool.true_and] at ha
        exact ha
      exact if_neg (ne_true_of_eq_false disabled)

/-! ### All channels in turn -/

/-- The state with other phases and counts of draws: all that the walk over the channels writes (`OnlyPhases`). -/
def withPhases (tp mp : Trio Phase) (dr : Trio Nat) (s : State) : State :=
  { s with tt := { s.tt with ttPhase := tp }, mt := { s.mt with mtPhase := mp }, draws := dr }

section OtherChannelsMoved

variable {draw : DrawSource} {s : State} {ch : Chan} {tp mp : Trio Phase} {dr : Trio Nat}

/-- A tone channel's increments depend on its own count of draws alone. -/
theorem toneIncrement_withPhases (hd : dr.get ch = s.draws.get ch) (i : Nat) :
    toneIncrement draw (withPhases tp mp dr s) ch i = toneIncrement draw s ch i := by
  rw [toneIncrement, toneIncrement, ← hd]
  rfl

/-- A tone channel's run depends on its own phase and its own count of draws alone. -/
theorem tonePhaseAfter_withPhases (ht : tp.get ch = s.tt.ttPhase.get ch) (hd : dr.get ch = s.draws.get ch) (i : Nat) :
    tonePhaseAfter draw (withPhases tp mp dr s) ch i = tonePhaseAfter draw s ch i := by
  induction i with
  | zero => exact ht
  | succ i ih => rw [tonePhaseAfter, tonePhaseAfter, ih, toneIncrement_withPhases hd]

theorem toneShare_withPhases (ht : tp.get ch = s.tt.ttPhase.get ch) (hd : dr.get ch = s.draws.get ch) (i : Nat) :
    toneShare draw (withPhases tp mp dr s) ch i = toneShare draw s ch i := by
  rw [toneShare, toneShare, tonePhaseAfter_withPhases ht hd]
  rfl

theorem tonePhaseEnd_withPhases (ht : tp.get ch = s.tt.ttPhase.get ch) (hd : dr.get ch = s.draws.get ch) (n : Nat) :
    tonePhaseEnd draw n (withPhases tp mp dr s) ch = tonePhaseEnd draw n s ch := by
  rw [tonePhaseEnd, tonePhaseEnd, tonePhaseAfter_withPhases ht hd, ← ht]
  rfl

theorem drawsEnd_withPhases (hd : dr.get ch = s.draws.get ch) (n : Nat) :
    drawsEnd n (withPhases tp mp dr s) ch = drawsEnd n s ch := by
  rw [drawsEnd, drawsEnd, ← hd]
  rfl

/-- A music channel's run depends on its own phase alone. -/
theorem musicPhaseAfter_withPhases (hm : mp.get ch = s.mt.mtPhase.get ch) (i : Nat) :
    musicPhaseAfter (withPhases tp mp dr s) ch i = musicPhaseAfter s ch i := by
  rw [musicPhaseAfter, musicPhaseAfter, ← hm]
  rfl

theorem musicShare_withPhases (hm : mp.get ch = s.mt.mtPhase.get ch) (i : Nat) :
    musicShare (withPhases tp mp dr s) ch i = musicShare s ch i := by
  rw [musicShare, musicShare, musicPhaseAfter_withPhases hm]
  rfl

theorem musicPhaseEnd_withPhases (hm : mp.get ch = s.mt.mtPhase.get ch) (n : Nat) :
    musicPhaseEnd n (withPhases tp mp dr s) ch = musicPhaseEnd n s ch := by
  rw [musicPhaseEnd, musicPhaseEnd, musicPhaseAfter_withPhases hm, ← hm]
  rfl

/-- `toneStep_eq` where other channels have moved already. -/
theorem toneStep_withPhases (ht : tp.get ch = s.tt.ttPhase.get ch) (hd : dr.get ch = s.draws.get ch) (n : Nat)
    (f : Nat → Nat) :
    (if ch.index < s.cfg.nTone then
      renderTone draw (noiseFreq s.cfg s.sfx.sfxControl s.tt.ttCount.ch0) ch (withPhases tp mp dr s, buffer f n)
     else (withPhases tp mp dr s, buffer f n)) =
    (withPhases (tp.set ch (tonePhaseEnd draw n s ch)) mp (dr.set ch (drawsEnd n s ch)) s,
      buffer (fun i => f i + toneShare draw s ch i) n) := by
  refine (toneStep_eq draw ch n (withPhases tp mp dr s) f).trans ?_
  rw [buffer_congr fun i => congrArg (f i + ·) (toneShare_withPhases ht hd i), moveTone,
    tonePhaseEnd_withPhases ht hd, drawsEnd_withPhases hd]
  rfl

/-- `musicStep_eq` where other channels have moved already. -/
theorem musicStep_withPhases (hm : mp.get ch = s.mt.mtPhase.get ch) (n : Nat) (f : Nat → Nat) :
    (if ch.index < s.cfg.nMusic then renderMusic ch (withPhases tp mp dr s, buffer f n)
     else (withPhases tp mp dr s, buffer f n)) =
    (withPhases tp (mp.set ch (musicPhaseEnd n s ch)) dr s, buffer (fun i => f i + musicShare s ch i) n) := by
  refine (musicStep_eq ch n (withPhases tp mp dr s) f).trans ?_
  rw [buffer_congr fun i => congrArg (f i + ·) (musicShare_withPhases hm i), moveMusic, musicPhaseEnd_withPhases hm]
  rfl

end OtherChannelsMoved

/-- Steps 1 to 4 of 45 R165 in closed form: every channel moves, and sample `i` is the sum of the shares. -/
theorem mix_eq (draw : DrawSource) (n : Nat) (s : State) :
    mix draw n s =
      (withPhases (.ofFn (tonePhaseEnd draw n s)) (.ofFn (musicPhaseEnd n s)) (.ofFn (drawsEnd n s)) s,
        buffer (sampleAt draw s) n) := by
  have start : (s, List.replicate n 0#16) =
      (withPhases s.tt.ttPhase s.mt.mtPhase s.draws s, buffer (fun _ => 0) n) := by
    rw [replicate_eq_buffer]
    rfl
  have tones : (channelsBelow s.cfg.nTone).foldl
      (fun x ch => renderTone draw (noiseFreq s.cfg s.sfx.sfxControl s.tt.ttCount.ch0) ch x)
      (s, List.replicate n 0#16) =
      (withPhases (.ofFn (tonePhaseEnd draw n s)) s.mt.mtPhase (.ofFn (drawsEnd n s)) s,
        buffer (fun i => 0 + toneShare draw s .ch0 i + toneShare draw s .ch1 i + toneShare draw s .ch2 i) n) := by
    rw [foldl_channelsBelow, start]
    dsimp only
    rw [toneStep_withPhases, toneStep_withPhases, toneStep_withPhases] <;> rfl
  rw [mix, tones, foldl_channelsBelow]
  dsimp only
  simp only [Nat.zero_add]
  rw [musicStep_withPhases, musicStep_withPhases, musicStep_withPhases] <;> rfl

/-- `RENDER n` in closed form (45 R165, R166). -/
theorem render_eq (draw : DrawSource) (n : Nat) (s : State) :
    render draw n s =
      { withPhases (.ofFn (tonePhaseEnd draw n s)) (.ofFn (musicPhaseEnd n s)) (.ofFn (drawsEnd n s)) s with
        samples := s.samples ++ buffer (sampleAt draw s) n
        cursor := s.cursor + n } := by
  rw [render, mix_eq, emitAll, length_buffer]
  rfl

theorem samples_render (draw : DrawSource) (n : Nat) (s : State) :
    (render draw n s).samples = s.samples ++ buffer (sampleAt draw s) n := by
  rw [render_eq]

theorem ttPhase_render (draw : DrawSource) (n : Nat) (s : State) (ch : Chan) :
    (render draw n s).tt.ttPhase.get ch = tonePhaseEnd draw n s ch := by
  rw [render_eq]
  exact Trio.get_ofFn ..

theorem mtPhase_render (draw : DrawSource) (n : Nat) (s : State) (ch : Chan) :
    (render draw n s).mt.mtPhase.get ch = musicPhaseEnd n s ch := by
  rw [render_eq]
  exact Trio.get_ofFn ..

theorem draws_render (draw : DrawSource) (n : Nat) (s : State) (ch : Chan) :
    (render draw n s).draws.get ch = drawsEnd n s ch := by
  rw [render_eq]
  exact Trio.get_ofFn ..

/-! ### The statements -/

/-- A tone channel that does not exist or is disabled keeps its phase (45 R172). -/
theorem tonePhaseEnd_of_notWalked (draw : DrawSource) (n : Nat) {s : State} {ch : Chan}
    (h : (toneExists s ch && toneEnabled s ch) = false) : tonePhaseEnd draw n s ch = s.tt.ttPhase.get ch := by
  have silent : toneAudible s ch = false := by rw [toneAudible, h, Bool.false_and]
  rw [tonePhaseEnd, silent, h, if_neg Bool.false_ne_true, if_neg Bool.false_ne_true]

theorem tonePhaseEnd_of_audible {draw : DrawSource} {n : Nat} {s : State} {ch : Chan} (ha : toneAudible s ch = true) :
    tonePhaseEnd draw n s ch = tonePhaseAfter draw s ch n :=
  if_pos ha

theorem musicPhaseEnd_of_audible {n : Nat} {s : State} {ch : Chan} (ha : musicAudible s ch = true) :
    musicPhaseEnd n s ch = musicPhaseAfter s ch n :=
  if_pos ha

theorem musicPhaseEnd_of_silent {n : Nat} {s : State} {ch : Chan} (ha : musicAudible s ch = false) :
    musicPhaseEnd n s ch = s.mt.mtPhase.get ch :=
  if_neg (ne_true_of_eq_false ha)

/-- Settles O43: the frame, and each channel's end, read off the closed form. -/
theorem renderWritesOnlyPhasesAndStream : Obligations.RenderWritesOnlyPhasesAndStream := by
  intro s n
  refine ⟨render Config.draw n.toNat s, buffer (sampleAt Config.draw s) n.toNat, rfl, length_buffer ..,
    ?_, ?_, ?_, ?_⟩
  · rw [render_eq]
    rfl
  · intro ch h
    rw [ttPhase_render, tonePhaseEnd_of_notWalked]
    rcases h with disabled | absent
    · rw [disabled, Bool.and_false]
    · rw [toneExists, decide_eq_false (Nat.not_lt.mpr absent), Bool.false_and]
  · intro ch h
    rw [mtPhase_render, musicPhaseEnd_of_silent]
    rcases h with disabled | absent
    · rw [musicAudible, disabled, Bool.and_false]
    · rw [musicAudible, musicExists, decide_eq_false (Nat.not_lt.mpr absent), Bool.false_and]
  · exact fun ch => draws_render ..

/-- Settles O50: the stream and the phases of the sounding channels, read off the closed form. -/
theorem renderEmitsTheSumOfHighChannels : Obligations.RenderEmitsTheSumOfHighChannels := by
  intro s n
  refine ⟨render Config.draw n.toNat s, rfl, samples_render .., fun ch audible => ?_, fun ch audible => ?_⟩
  · rw [ttPhase_render, tonePhaseEnd_of_audible audible]
  · rw [mtPhase_render, musicPhaseEnd_of_audible audible]

end Sys2Proof.Machine
end

section
/-! Proofs for 10_state: what one operation can do to the state, said once for all 42 operations (46 R185,
R186), and the step's invariant with the frames that are read off it (O8, O9, O30, O31, O58). -/

namespace Sys2Proof.Machine

/-! ### Everything an operation can do -/

/-- `RENDER 0` changes nothing (45 R174). -/
@[simp] theorem render_zero (draw : DrawSource) (s : State) : render draw 0 s = s := by
  have tone : Trio.ofFn (tonePhaseEnd draw 0 s) = s.tt.ttPhase :=
    Trio.ext_get fun ch => by simp [tonePhaseEnd, tonePhaseAfter]
  have music : Trio.ofFn (musicPhaseEnd 0 s) = s.mt.mtPhase :=
    Trio.ext_get fun ch => by simp [musicPhaseEnd]
  have draws : Trio.ofFn (drawsEnd 0 s) = s.draws :=
    Trio.ext_get fun ch => by simp [drawsEnd]
  rw [render_eq, tone, music, draws]
  simp [withPhases, buffer]

/-- The byte of a counter read (42 R108): `ItCounter()[7:0]`. -/
def counterByte (s : State) : Byte := (itCounter s.cfg (Config.idleCount s.openReads) s.it).setWidth 8

/-- A counter read answers its byte, and uses up a free one in `Idle` (log 7). -/
theorem readCounter_eq (s : State) :
    readCounter s =
      { s with
        readData := some (counterByte s)
        openReads := if s.it.itState = .idle then s.openReads + 1 else s.openReads } := by
  unfold readCounter
  split <;> rfl

/-- What operation `i`, which is not `RESET`, does to a state after its rendering: one of the named updates of
the model. -/
inductive Effect (i : Instr) (u : State) : State → Prop
  | nothing : Effect i u u
  | portLatches (paOut paDdr pbOut pbDdr : Byte) :
      Effect i u (setTimer { u.it with paOut := paOut, paDdr := paDdr, pbOut := pbOut, pbDdr := pbDdr } u)
  | load (isLoad : i.isLoad = true) : Effect i u (loadPort i.fields.off i.fields.data u)
  | counterRead (al : Bool) (isRead : i = .itRcnt al) : Effect i u (setTimer (dropLine u.it) (readCounter u))
  | flagRead (al : Bool) (isRead : i = .itRflg al) (b : Byte) : Effect i u (setTimer (acknowledge u.it) (busRead b u))
  | ticks (n : BitVec 32) (isAdv : i = .itAdv n) : Effect i u (setTimer (itTicks u.cfg n.toNat u.it) u)
  | otherRead (b : Byte) : Effect i u (busRead b u)
  | openRead (b : Byte) : Effect i u (busReadOpen b u)
  | toneControl (ch : Chan) (d : Byte) : Effect i u (setToneControl ch d u)
  | toneMsb (d : Byte) : Effect i u (latchMsb d u)
  | toneCommit (ch : Chan) (d : Byte) : Effect i u (commitTone ch d u)
  | musicLow (ch : Chan) (d : Byte) : Effect i u (musicLow ch d u)
  | musicHigh (ch : Chan) (d : Byte) : Effect i u (musicHigh ch d u)
  | musicEnable (ch : Chan) (b : Bool) :
      Effect i u { u with mt := { u.mt with mtEnabled := u.mt.mtEnabled.set ch b } }
  | sfxControl (d : Byte) : Effect i u (setSfxControl d u)
  | sfxVolume (ch : Chan) (d : Byte) : Effect i u (setSfxVolume ch d u)

/-- A count write of the music timer is its low or its high half (44 R151). -/
theorem Effect.musicCount (i : Instr) (ch : Chan) (d : Byte) (u : State) : Effect i u (musicCount ch d u) := by
  unfold Machine.musicCount
  split
  · exact .musicHigh ch d
  · exact .musicLow ch d

/-- A gate write sets the enable of the channel it names, or none (44 R153). -/
theorem Effect.musicGate (i : Instr) (d : Byte) (u : State) : Effect i u (musicGate d u) := by
  unfold Machine.musicGate
  split
  · exact .musicEnable _ _
  · exact .nothing

/-- An operation that renders nothing has its effect on the state itself. -/
theorem Effect.of_noRendering {i : Instr} {s t : State} (hr : i.rendered = 0#32) (e : Effect i s t) :
    Effect i (render Config.draw i.rendered.toNat s) t := by
  rw [hr, BitVec.toNat_ofNat, Nat.zero_mod, render_zero]
  exact e

/-- Everything an operation but `RESET` can do: it renders its samples, then it has its effect. -/
theorem exec_effect {i : Instr} {s t : State} (h : exec i s = .next t) (hi : i ≠ .reset) :
    Effect i (render Config.draw i.rendered.toNat s) t := by
  cases i with
  | itWpad d | itWpaddr d | itWpbd d | itWpbddr d =>
    cases h
    exact .portLatches _ _ _ _
  | itLd1 | itLd8 | itLd64 | itLd1k | itLd1i | itLd8i | itLd64i | itLd1ki =>
    cases h
    exact .load (by simp [Instr.isLoad, Instr.isWrite, Instr.fields, writeFields, unitCode])
  | itWign | render =>
    cases h
    exact .nothing
  | itRpad | itRpbd | itRund | ttRund | mtRund | sfxRund =>
    cases h
    exact .of_noRendering rfl (.openRead _)
  | itRpaddr | itRpbddr =>
    cases h
    exact .of_noRendering rfl (.otherRead _)
  | itRcnt al =>
    cases h
    exact .of_noRendering rfl (.counterRead al rfl)
  | itRflg al =>
    cases h
    exact .of_noRendering rfl (.flagRead al rfl _)
  | itAdv n =>
    cases h
    exact .of_noRendering rfl (.ticks n rfl)
  | ttWcr | ttWmc =>
    cases h
    exact .toneControl _ _
  | ttWmsb2 | ttWmsb4 | ttWmsb6 =>
    cases h
    exact .toneMsb _
  | ttWlsb0 | ttWlsb1 | ttWlsb2 =>
    cases h
    exact .toneCommit _ _
  | mtWcnt0 | mtWcnt1 | mtWcnt2 =>
    cases h
    exact .musicCount _ _ _ _
  | mtWgate =>
    cases h
    exact .musicGate _ _ _
  | sfxWctl =>
    cases h
    exact .sfxControl _
  | sfxWvol0 | sfxWvol1 | sfxWvol2 =>
    cases h
    exact .sfxVolume _ _
  | reset => exact absurd rfl hi

/-! ### What an operation keeps -/

/-- Only rendering moves the phases, the draws, the cursor and the stream (10_state R26, R27). -/
theorem Effect.stream {i : Instr} {u t : State} (e : Effect i u t) :
    (t.tt.ttPhase = u.tt.ttPhase ∧ t.mt.mtPhase = u.mt.mtPhase ∧ t.draws = u.draws) ∧
      t.cursor = u.cursor ∧ t.samples = u.samples := by
  cases e with
  | counterRead =>
    rw [readCounter_eq]
    exact ⟨⟨rfl, rfl, rfl⟩, rfl, rfl⟩
  | _ => exact ⟨⟨rfl, rfl, rfl⟩, rfl, rfl⟩

/-- Settles O58: the effect after the rendering moves none of the five. -/
theorem onlyRenderingMovesPhasesAndCursor : Obligations.OnlyRenderingMovesPhasesAndCursor := by
  intro i s t h hi
  obtain ⟨phases, cursor, samples⟩ := (exec_effect h hi).stream
  refine ⟨fun hr => ?_, ?_, buffer (sampleAt Config.draw s) i.rendered.toNat, ?_, length_buffer ..⟩
  · rw [hr, BitVec.toNat_ofNat, Nat.zero_mod, render_zero] at phases
    exact phases
  · rw [cursor, render_cursor]
  · rw [samples, samples_render]

/-! ### The invariant (10_state R31) -/

/-- The timer's part of the invariant: clauses (c) to (f) of 10_state R31. -/
structure TimerInv (c : Config) (x : IntervalTimer) : Prop where
  idleAtZero : x.itState = .idle → x.itElapsed = 0#18
  belowUpLeg : x.itState = .countingUp → x.itElapsed.toNat < upLeg c x
  belowDownLeg : x.itState = .countingDown → x.itElapsed.toNat < downLeg c x
  lineNeedsFlag : x.irqLine = true → x.irqFlag = true

theorem Inv.timer {s : State} (inv : Inv s) : TimerInv s.cfg s.it := { inv with }

section Timer

variable {c : Config} {x : IntervalTimer}

/-- The first expiry starts the second leg, which is not empty, with the flag set (42 R105). -/
theorem TimerInv.itExp1 (hc : c.Structural) (x : IntervalTimer) : TimerInv c (itExp1 x) where
  idleAtZero := nofun
  belowUpLeg := nofun
  belowDownLeg _ := (leg_bounds hc x).2.1
  lineNeedsFlag _ := rfl

theorem TimerInv.itExp2 (line : x.irqLine = true → x.irqFlag = true) : TimerInv c (itExp2 x) where
  idleAtZero _ := rfl
  belowUpLeg := nofun
  belowDownLeg := nofun
  lineNeedsFlag := line

/-- A tick that does not end the leg brings the elapsed count no further than below its end (42 R104). -/
theorem countTick_below {n : Nat} (below : x.itElapsed.toNat < n) (hn : n < 2 ^ 18)
    (notEnd : (x.itElapsed + 1#18).toNat ≠ n) : (countTick x).itElapsed.toNat < n := by
  have counted := countTick_toNat below hn
  rw [countTick_itElapsed] at counted ⊢
  omega

theorem TimerInv.itTick (hc : c.Structural) (inv : TimerInv c x) : TimerInv c (itTick c x) := by
  obtain ⟨up, -, down⟩ := leg_bounds hc x
  obtain ⟨-, e⟩ | ⟨-, -, e⟩ | ⟨state, notEnd, e⟩ | ⟨-, -, e⟩ | ⟨state, notEnd, e⟩ := itTick_cases c x <;> rw [e]
  · exact inv
  · exact .itExp1 hc _
  · exact
      { idleAtZero := fun idle => nomatch state.symm.trans idle
        belowUpLeg := fun _ => countTick_below (inv.belowUpLeg state) up notEnd
        belowDownLeg := fun down => nomatch state.symm.trans down
        lineNeedsFlag := inv.lineNeedsFlag }
  · exact .itExp2 inv.lineNeedsFlag
  · exact
      { idleAtZero := fun idle => nomatch state.symm.trans idle
        belowUpLeg := fun up => nomatch state.symm.trans up
        belowDownLeg := fun _ => countTick_below (inv.belowDownLeg state) down notEnd
        lineNeedsFlag := inv.lineNeedsFlag }

/-- A load starts a leg that is not empty, or expires at once (42 R102, R103). -/
theorem TimerInv.itLoadPort (hc : c.Structural) (off : BitVec 5) (d : Byte) (x : IntervalTimer) :
    TimerInv c (itLoadPort c off d x) := by
  obtain ⟨-, e⟩ | ⟨nonzero, e⟩ := itLoadPort_cases c off d x <;> rw [e]
  · exact .itExp1 hc _
  · have loaded : 0 < d.toNat := Nat.pos_of_ne_zero fun h => nonzero (BitVec.eq_of_toNat_eq h)
    exact
      { idleAtZero := nofun
        belowUpLeg := fun _ => Nat.mul_pos (divider_bounds hc (loadDivsel off)).1 loaded
        belowDownLeg := nofun
        lineNeedsFlag := nofun }

end Timer

theorem freqStep_zero (c : Config) : freqStep c 0#16 = 0#32 := by simp [freqStep]

/-- A freshly constructed block has the invariant (10_state R30). -/
theorem Inv.initial {c : Config} (hc : c.Structural) : Inv (State.initial c) where
  structural := hc
  structuralIn := hc
  toneSteps ch := by simp [State.initial, ToneTimer.initial, freqStep_zero]
  musicSteps ch := by simp [State.initial, MusicTimer.initial, freqStep_zero]
  idleAtZero _ := rfl
  belowUpLeg := nofun
  belowDownLeg := nofun
  lineNeedsFlag := nofun
  cursorCounts := rfl

theorem Inv.resetBlock {s : State} (inv : Inv s) : Inv (resetBlock s) := { Inv.initial inv.structuralIn with }

theorem Inv.render {s : State} (inv : Inv s) (draw : DrawSource) (n : Nat) : Inv (render draw n s) := by
  obtain ⟨_, _, _, buf, len, e⟩ := render_frame draw n s
  rw [e]
  exact { inv with cursorCounts := by rw [List.length_append, len, inv.cursorCounts] }

/-- The timer's clauses are all that an update of the timer touches. -/
theorem Inv.setTimer {u : State} (inv : Inv u) {x : IntervalTimer} (timer : TimerInv u.cfg x) : Inv (setTimer x u) :=
  { timer, inv with }

/-- A count that is written together with its step (10_state R31 (a)). -/
theorem steps_set {c : Config} {steps : Trio Phase} {counts : Trio Count}
    (h : ∀ ch, steps.get ch = freqStep c (counts.get ch)) (ch : Chan) (n : Count) :
    ∀ ch', (steps.set ch (freqStep c n)).get ch' = freqStep c ((counts.set ch n).get ch') := by
  intro ch'
  rw [Trio.get_set, Trio.get_set]
  split
  · rfl
  · exact h ch'

/-- Every effect keeps the invariant. -/
theorem Effect.inv {i : Instr} {u t : State} (e : Effect i u t) (inv : Inv u) : Inv t := by
  cases e with
  | portLatches => exact inv.setTimer { inv with }
  | load => exact inv.setTimer (.itLoadPort inv.structural _ _ _)
  | counterRead =>
    rw [readCounter_eq]
    exact { inv with lineNeedsFlag := nofun }
  | flagRead => exact { inv with lineNeedsFlag := nofun }
  | ticks n => exact inv.setTimer (itTicks_keep (fun _ => .itTick inv.structural) _ _ inv.timer)
  | toneCommit ch d => exact { inv with toneSteps := steps_set inv.toneSteps ch _ }
  | musicHigh ch d => exact { inv with musicSteps := steps_set inv.musicSteps ch _ }
  | nothing | otherRead | openRead | toneControl | toneMsb | musicLow | musicEnable | sfxControl
  | sfxVolume => exact { inv with }

/-- Every operation keeps the invariant. -/
theorem exec_inv {i : Instr} {s t : State} (h : exec i s = .next t) (inv : Inv s) : Inv t := by
  by_cases hi : i = .reset
  · subst hi
    cases h
    exact inv.resetBlock
  · exact (exec_effect h hi).inv (inv.render ..)

/-- Settles O8: a step waits, or performs an operation on the state with a shorter queue, or is refused. -/
theorem stepKeepsInvariant : Obligations.StepKeepsInvariant := by
  intro s t inv h
  obtain ⟨-, e⟩ | ⟨w, rest, i, -, -, e⟩ | ⟨w, rest, why, -, -, e⟩ := step_cases s <;> rw [e] at h
  · cases h
    exact inv
  · exact exec_inv h { inv with }
  · cases h

/-- Settles O9: the standard values meet `Structural`. -/
theorem resetStateHasInvariant : Obligations.ResetStateHasInvariant := Inv.initial (by decide)

/-! ### The timer over all operations -/

/-- Everything an operation but `RESET` can do to the timer (60 R202). -/
theorem exec_timer_cases {i : Instr} {s t : State} (h : exec i s = .next t) (hi : i ≠ .reset) :
    (∃ paOut paDdr pbOut pbDdr,
      t.it = { s.it with paOut := paOut, paDdr := paDdr, pbOut := pbOut, pbDdr := pbDdr }) ∨
    (i.isLoad = true ∧ t.it = itLoadPort s.cfg i.fields.off i.fields.data s.it) ∨
    (∃ al, i = .itRcnt al ∧ t.it = dropLine s.it) ∨
    (∃ al, i = .itRflg al ∧ t.it = acknowledge s.it) ∨
    (∃ n, i = .itAdv n ∧ t.it = itTicks s.cfg n.toNat s.it) := by
  rw [← render_it Config.draw i.rendered.toNat s, ← render_cfg Config.draw i.rendered.toNat s]
  cases exec_effect h hi with
  | load isLoad => exact .inr (.inl ⟨isLoad, rfl⟩)
  | counterRead al isRead => exact .inr (.inr (.inl ⟨al, isRead, rfl⟩))
  | flagRead al isRead => exact .inr (.inr (.inr (.inl ⟨al, isRead, rfl⟩)))
  | ticks n isAdv => exact .inr (.inr (.inr (.inr ⟨n, isAdv, rfl⟩)))
  | portLatches | nothing | otherRead | openRead | toneControl | toneMsb | toneCommit | musicLow | musicHigh
  | musicEnable | sfxControl | sfxVolume => exact .inl ⟨_, _, _, _, rfl⟩

/-- A load with the enable on keeps a set flag (42 R102). -/
theorem flagAfterLoad_enabled (c : Config) (flag : Bool) : flagAfterLoad c true flag = flag := rfl

/-- A load before its zero test clears the flag or keeps it, and never sets it (42 R102). -/
theorem flag_of_flagAfterLoad {c : Config} {enable flag : Bool} (h : flagAfterLoad c enable flag = true) :
    flag = true := by
  unfold flagAfterLoad at h
  split at h
  · exact h
  · split at h
    · cases h
    · exact h

/-- The line rises in ticks only with the flag set and the enable on (42 R105). -/
theorem itTicks_line_rises {c : Config} {t : Nat} {x : IntervalTimer} (low : x.irqLine = false)
    (high : (itTicks c t x).irqLine = true) :
    (itTicks c t x).irqFlag = true ∧ (itTicks c t x).irqEnabled = true := by
  refine itTicks_keep (P := fun y => y.irqLine = true → y.irqFlag = true ∧ y.irqEnabled = true) (fun y ih => ?_) t x
    (fun line => nomatch low.symm.trans line) high
  obtain ⟨-, e⟩ | ⟨-, -, e⟩ | ⟨-, -, e⟩ | ⟨-, -, e⟩ | ⟨-, -, e⟩ := itTick_cases c y <;> rw [e]
  case inr.inl =>
    intro raised
    obtain enabled | line := (Bool.or_eq_true ..).mp raised
    · exact ⟨rfl, enabled⟩
    · exact ⟨rfl, (ih line).2⟩
  all_goals exact ih

/-- Settles O30, by the five things that can happen to the timer. -/
theorem interruptBitsChangeOnlyAsListed : Obligations.InterruptBitsChangeOnlyAsListed := by
  intro i s t h hi
  obtain ⟨_, _, _, _, e⟩ | ⟨load, e⟩ | ⟨al, rfl, e⟩ | ⟨al, rfl, e⟩ | ⟨n, rfl, e⟩ := exec_timer_cases h hi <;> rw [e]
  · simp +contextual
  · obtain ⟨zero, e⟩ | ⟨-, e⟩ := itLoadPort_cases s.cfg i.fields.off i.fields.data s.it <;> rw [e]
    · simp +contextual [load, zero]
    · refine ⟨fun _ => load, fun clear raised => ?_, fun set cleared => ?_, nofun, fun _ _ => .inr (.inr load)⟩
      · exact nomatch clear.symm.trans (flag_of_flagAfterLoad raised)
      · refine .inr ⟨load, Bool.eq_false_of_not_eq_true fun enabled => ?_⟩
        rw [startLeg_irqFlag, loadIrqEnable, enabled, flagAfterLoad_enabled, set] at cleared
        cases cleared
  · simp +contextual
  · simp +contextual
  · obtain ⟨-, -, enable, -⟩ := itTicks_frame s.cfg n.toNat s.it
    obtain ⟨flag, line⟩ := itTicks_keep_flag_line s.cfg n.toNat s.it
    exact ⟨fun changed => absurd enable changed, fun _ _ => .inl ⟨n, rfl⟩,
      fun set cleared => (nomatch cleared.symm.trans (flag set)),
      fun low high => ⟨(itTicks_line_rises low high).1, (itTicks_line_rises low high).2, .inl ⟨n, rfl⟩⟩,
      fun high dropped => (nomatch dropped.symm.trans (line high))⟩

/-- No tick starts the first leg (42 R104). -/
theorem itTicks_not_countingUp {c : Config} {t : Nat} {x : IntervalTimer} (h : x.itState ≠ .countingUp) :
    (itTicks c t x).itState ≠ .countingUp := by
  refine itTicks_keep (P := fun y => y.itState ≠ .countingUp) (fun y ih => ?_) t x h
  obtain ⟨-, e⟩ | ⟨-, -, e⟩ | ⟨-, -, e⟩ | ⟨-, -, e⟩ | ⟨-, -, e⟩ := itTick_cases c y <;> rw [e]
  · exact ih
  · exact nofun
  · exact ih
  · exact nofun
  · exact ih

/-- Settles O31, by the five things that can happen to the timer. -/
theorem timerStateChangesOnlyAsListed : Obligations.TimerStateChangesOnlyAsListed := by
  intro i s t h hi
  obtain ⟨_, _, _, _, e⟩ | ⟨load, e⟩ | ⟨al, rfl, e⟩ | ⟨al, rfl, e⟩ | ⟨n, rfl, e⟩ := exec_timer_cases h hi <;> rw [e]
  · simp +contextual
  · obtain ⟨zero, e⟩ | ⟨-, e⟩ := itLoadPort_cases s.cfg i.fields.off i.fields.data s.it <;> rw [e]
    · simp [load, zero]
    · simp [load]
  · simp +contextual
  · simp +contextual
  · have stays : s.it.itState = .idle → (itTicks s.cfg n.toNat s.it).itState = .idle := fun idle => by
      rw [itTicks_idle s.cfg idle, idle]
    refine ⟨fun idle left => absurd (stays idle) left, fun up notUp => absurd up (itTicks_not_countingUp notUp),
      fun _ _ => ⟨n, rfl⟩, fun down notDown => .inl ⟨⟨n, rfl⟩, ?_⟩⟩
    cases leg : s.it.itState with
    | idle => exact nomatch (stays leg).symm.trans down
    | countingUp => rfl
    | countingDown => exact absurd leg notDown

end Sys2Proof.Machine
end

section
/-! Proofs for 10_state: no sample overflows (O51; 45 R175). -/

namespace Sys2Proof.Machine

/-- A volume is at most `BASE_VOLUME` (10_state R25). -/
theorem vol_le {c : Config} (hb : c.baseVolume = 5461) (f : BitVec 3) : (vol c f).toNat ≤ 5461 := by
  have hf := f.isLt
  have le : f.toNat * 5461 / 7 ≤ 5461 := by omega
  rw [vol, hb, BitVec.toNat_ofNat]
  exact (Nat.mod_le ..).trans le

theorem toneShare_le (draw : DrawSource) {s : State} (hb : s.cfg.baseVolume = 5461) (ch : Chan) (i : Nat) :
    toneShare draw s ch i ≤ 5461 := by
  unfold toneShare
  split
  · exact vol_le hb _
  · exact Nat.zero_le _

theorem musicShare_le {s : State} (hb : s.cfg.baseVolume = 5461) (ch : Chan) (i : Nat) :
    musicShare s ch i ≤ 5461 := by
  unfold musicShare
  split
  · rw [musicVolume, hb]
    decide
  · exact Nat.zero_le _

/-- Six channels of at most 5461 each: the exact sum stays below `2^15` (45 R175). -/
theorem sampleAt_le (draw : DrawSource) {s : State} (hb : s.cfg.baseVolume = 5461) (i : Nat) :
    sampleAt draw s i ≤ 32766 := by
  have t0 := toneShare_le draw hb .ch0 i
  have t1 := toneShare_le draw hb .ch1 i
  have t2 := toneShare_le draw hb .ch2 i
  have m0 := musicShare_le hb .ch0 i
  have m1 := musicShare_le hb .ch1 i
  have m2 := musicShare_le hb .ch2 i
  unfold sampleAt
  omega

/-- A value below `2^15` is kept by the 16 bits of a sample, as a non-negative number (45 R175). -/
theorem toInt_sample {v : Nat} (h : v ≤ 32766) : (BitVec.ofNat 16 v).toInt = v := by
  have kept : (BitVec.ofNat 16 v).toNat = v := Nat.mod_eq_of_lt (by omega)
  rw [BitVec.toInt_eq_toNat_of_lt (by omega), kept]

/-- Settles O51: the bound on the sum, and with it the 16-bit values of the stream. -/
theorem samplesNeverOverflow : Obligations.SamplesNeverOverflow := by
  intro s n hc
  have hb : s.cfg.baseVolume = 5461 := by
    obtain ⟨-, -, -, -, -, -, -, baseVolume, -⟩ := hc
    exact baseVolume
  refine ⟨fun draw i => sampleAt_le draw hb i, render Config.draw n.toNat s, buffer (sampleAt Config.draw s) n.toNat,
    rfl, samples_render .., ?_⟩
  rw [buffer, List.map_map]
  exact List.map_congr_left fun i _ => toInt_sample (sampleAt_le Config.draw hb i)

end Sys2Proof.Machine
end

section
/-! Proofs for 10_state: the timer's counter read and port latches, and `RESET` (O27, O29, O11). -/

namespace Sys2Proof.Machine

/-- A low line at the end means one call if it was high at the start (60 R203). -/
theorem callsAfter_low (calls : List Bool) (line : Bool) :
    callsAfter calls line false = if line then calls ++ [false] else calls := by
  cases line <;> rfl

/-- An update of the timer that keeps the line makes no call (60 R203). -/
theorem setTimer_of_sameLine {x : IntervalTimer} {s : State} (h : x.irqLine = s.it.irqLine) :
    setTimer x s = { s with it := x } := by
  rw [setTimer, h, callsAfter_same]

/-! ### The counter read (42 R107, R108) -/

/-- A counter of at most 255 is read whole. -/
theorem toNat_counter_byte {v : Nat} (h : v ≤ 255) : ((BitVec.ofNat 16 v).setWidth 8).toNat = v := by
  rw [BitVec.toNat_setWidth, BitVec.toNat_ofNat]
  omega

/-- In the first leg the byte is the elapsed divided ticks, fewer than were loaded. -/
theorem counterByte_countingUp {s : State} (inv : Inv s) (up : s.it.itState = .countingUp) :
    (counterByte s).toNat = s.it.itElapsed.toNat / divider s.cfg s.it.itDivsel ∧
      (counterByte s).toNat < s.it.itLoad.toNat := by
  have fewer : s.it.itElapsed.toNat / divider s.cfg s.it.itDivsel < s.it.itLoad.toNat :=
    Nat.div_lt_of_lt_mul (inv.belowUpLeg up)
  have loaded := s.it.itLoad.isLt
  have read : (counterByte s).toNat = s.it.itElapsed.toNat / divider s.cfg s.it.itDivsel := by
    rw [counterByte, itCounter, up]
    exact toNat_counter_byte (by omega)
  exact ⟨read, read ▸ fewer⟩

/-- In the second leg the byte is the remaining divided ticks of 255. -/
theorem counterByte_countingDown {s : State} (inv : Inv s) (down : s.it.itState = .countingDown) :
    (counterByte s).toNat =
      (divider s.cfg s.it.itDivsel * 255 - s.it.itElapsed.toNat) / divider s.cfg s.it.itDivsel := by
  obtain ⟨-, downMax, -⟩ := inv.structural
  have atMost : (divider s.cfg s.it.itDivsel * 255 - s.it.itElapsed.toNat) / divider s.cfg s.it.itDivsel ≤ 255 :=
    Nat.div_le_of_le_mul (Nat.sub_le ..)
  rw [counterByte, itCounter, down, downLeg, downMax]
  exact toNat_counter_byte atMost

/-- Settles O27: the whole next state, and the byte in each leg. -/
theorem counterReadReportsTheLeg : Obligations.CounterReadReportsTheLeg := by
  intro s al inv
  refine ⟨counterByte s, ?_, counterByte_countingUp inv, counterByte_countingDown inv⟩
  rw [← callsAfter_low, exec, execItRcnt, readCounter_eq]
  rfl

/-! ### The port latches (42 R111, R112) -/

/-- Settles O29: a latch is no part of the line, so a write of it makes no call. -/
theorem portLatchesHoldTheirBytes : Obligations.PortLatchesHoldTheirBytes := by
  refine ⟨fun s d k => ⟨render Config.draw k.toNat s, rfl, ?_, ?_, ?_, ?_⟩,
    fun s => ⟨rfl, rfl, ⟨_, rfl⟩, _, rfl⟩⟩ <;>
  exact congrArg Host.Outcome.next (setTimer_of_sameLine rfl)

/-! ### `RESET` (70 R220) -/

/-- Settles O11: the reset values are the table's, and the line ends low. -/
theorem resetOperationGivesTheTable : Obligations.ResetOperationGivesTheTable := by
  intro s
  rw [← callsAfter_low]
  rfl

end Sys2Proof.Machine
end

section
/-! Proofs for 10_state: the registers of the tone timer and of the sfx unit (O34, O35, O41, O42). -/

namespace Sys2Proof.Machine

/-! ### Enabled and noisy (10_state R22) -/

theorem toneEnabled_iff (s : State) (ch : Chan) :
    toneEnabled s ch = true ↔ (s.tt.ttCr.get ch).getLsbD 7 = true ∧ s.tt.ttCount.get ch ≠ 0#16 := by
  rw [toneEnabled, Bool.and_eq_true, bne_iff_ne]
  rfl

theorem toneNoisy_iff (s : State) (ch : Chan) : toneNoisy s ch = true ↔ (s.tt.ttCr.get ch).getLsbD 1 = false := by
  rw [toneNoisy, Bool.not_eq_true']
  rfl

/-- Settles O35: the Channel record holds the two functions. -/
theorem toneEnabledAndNoisyFollowRegisters : Obligations.ToneEnabledAndNoisyFollowRegisters :=
  fun s ch => ⟨toneEnabled_iff s ch, toneNoisy_iff s ch⟩

/-! ### The tone commit (43 R134) -/

/-- The three commit ports are one operation on their channels. -/
theorem exec_toneCommit {p : (Byte → BitVec 32 → Instr) × Chan} (hp : p ∈ toneCommits) (d : Byte) (k : BitVec 32)
    (s : State) : exec (p.1 d k) s = busWrite k (commitTone p.2 d) s := by
  fin_cases hp <;> rfl

/-- Settles O34: the count is the two bytes put together, and the channel is enabled by it and its control byte. -/
theorem toneCommitSetsCountAndStep : Obligations.ToneCommitSetsCountAndStep := by
  intro p hp s d k
  have countValue := toNat_countOf s.tt.ttMsb d
  refine ⟨render Config.draw k.toNat s, _, rfl, exec_toneCommit hp d k s, ?_, ?_, ?_, ?_⟩
  · simp [countValue]
  · simp
  · rw [toneEnabled_iff, ← countValue]
    simp [BitVec.toNat_eq]
  · simp [commitTone]

/-! ### The sfx ports (45 R176, R177) -/

/-- Settles O41: the meaning of the port, as it is defined. -/
theorem sfxControlWriteStoresTheByte : Obligations.SfxControlWriteStoresTheByte :=
  fun s _ k => ⟨render Config.draw k.toNat s, rfl, rfl⟩

/-- The three volume ports are one operation on their channels. -/
theorem exec_volumeWrite {p : (Byte → BitVec 32 → Instr) × Chan} (hp : p ∈ volumeWrites) (d : Byte) (k : BitVec 32)
    (s : State) : exec (p.1 d k) s = busWrite k (setSfxVolume p.2 d) s := by
  fin_cases hp <;> rfl

/-- The eight volumes (10_state R25; decision D16). -/
theorem vol_table {c : Config} (hb : c.baseVolume = 5461) (f : BitVec 3) :
    some (vol c f).toNat = [0, 780, 1560, 2340, 3120, 3900, 4680, 5461][f.toNat]? := by
  rw [vol, hb]
  revert f
  decide

/-- Settles O42: the field is stored in its channel, and its volume is read from the table. -/
theorem volumeWriteStoresTheField : Obligations.VolumeWriteStoresTheField := by
  intro p hp s d k
  refine ⟨render Config.draw k.toNat s, _, rfl, exec_volumeWrite hp d k s, ?_, fun lsb => ?_, fun hb => ?_⟩
  · simp [setSfxVolume, volumeField]
  · simp [volumeField, lsb]
  · exact vol_table (by simpa using hb) _

end Sys2Proof.Machine
end

section
/-! Proofs for 20_memory: the flush of a write, the reads, and the registers of each unit over all operations
(O54, O56, O59). -/

namespace Sys2Proof.Machine

/-! ### The two bus wrappers (46 R185 to R187) -/

/-- A write is its flush, then the same write with nothing left to flush (46 R187). -/
theorem busWrite_eq_after_flush (k : BitVec 32) (mutate : State → State) (s : State) :
    busWrite k mutate s = busWrite 0#32 mutate (render Config.draw k.toNat s) := by
  rw [busWrite, busWrite, BitVec.toNat_ofNat, Nat.zero_mod, render_zero]

/-- Settles O54: every write is made by `busWrite`. -/
theorem writeFlushesThenActs : Obligations.WriteFlushesThenActs := by
  intro i s hw
  refine ⟨render Config.draw i.rendered.toNat s, rfl, ?_⟩
  cases i with
  | itWpad | itWpaddr | itWpbd | itWpbddr
  | itLd1 | itLd8 | itLd64 | itLd1k | itLd1i | itLd8i | itLd64i | itLd1ki | itWign
  | ttWcr | ttWmc | ttWmsb2 | ttWmsb4 | ttWmsb6 | ttWlsb0 | ttWlsb1 | ttWlsb2
  | mtWcnt0 | mtWcnt1 | mtWcnt2 | mtWgate
  | sfxWctl | sfxWvol0 | sfxWvol1 | sfxWvol2 =>
    dsimp only [exec, Instr.withFlush]
    exact busWrite_eq_after_flush _ _ s
  | itRpad | itRpaddr | itRpbd | itRpbddr | itRcnt | itRflg | itRund | ttRund | mtRund | sfxRund
  | render | itAdv | reset => cases hw

/-- Settles O56: a read only answers its byte; the counter read drops the line, the flag read clears both bits. -/
theorem readsChangeOnlyInterruptBits : Obligations.ReadsChangeOnlyInterruptBits := by
  intro i s hr
  cases i with
  | itRpad | itRpaddr | itRpbd | itRpbddr | itRund | ttRund | mtRund | sfxRund =>
    exact ⟨_, _, rfl, rfl, fun _ => rfl, fun _ _ => ⟨rfl, rfl⟩⟩
  | itRcnt al =>
    refine ⟨_, counterByte s, rfl, ?_⟩
    rw [readCounter_eq]
    exact ⟨rfl, fun _ => rfl, fun _ notCounter => absurd rfl (notCounter al)⟩
  | itRflg al =>
    exact ⟨_, _, rfl, rfl, fun notFlag => absurd rfl (notFlag al), fun notFlag => absurd rfl (notFlag al)⟩
  | _ => cases hr

/-! ### The units keep apart (20 R41; 60 R202) -/

/-- The registers of every unit but the one with code `u` (30 R61), and the calls of the output callback unless
`u` is the timer's, are the same in both states. -/
structure OnlyUnit (u : BitVec 2) (s t : State) : Prop where
  timer : u ≠ 0#2 → t.it = s.it ∧ t.irqCalls = s.irqCalls
  tone : u ≠ 1#2 → t.tt.ttCr = s.tt.ttCr ∧ t.tt.ttMsb = s.tt.ttMsb ∧ t.tt.ttCount = s.tt.ttCount ∧
    t.tt.ttStep = s.tt.ttStep
  music : u ≠ 2#2 → t.mt.mtToggle = s.mt.mtToggle ∧ t.mt.mtLow = s.mt.mtLow ∧ t.mt.mtCount = s.mt.mtCount ∧
    t.mt.mtStep = s.mt.mtStep ∧ t.mt.mtEnabled = s.mt.mtEnabled
  sfx : u ≠ 3#2 → t.sfx = s.sfx

section
variable {s t : State}

theorem onlyUnit_it (tt : t.tt = s.tt) (mt : t.mt = s.mt) (sfx : t.sfx = s.sfx) : OnlyUnit 0#2 s t :=
  ⟨absurd rfl, by simp [tt], by simp [mt], fun _ => sfx⟩

theorem onlyUnit_tt (it : t.it = s.it) (calls : t.irqCalls = s.irqCalls) (mt : t.mt = s.mt) (sfx : t.sfx = s.sfx) :
    OnlyUnit 1#2 s t :=
  ⟨fun _ => ⟨it, calls⟩, absurd rfl, by simp [mt], fun _ => sfx⟩

theorem onlyUnit_mt (it : t.it = s.it) (calls : t.irqCalls = s.irqCalls) (tt : t.tt = s.tt) (sfx : t.sfx = s.sfx) :
    OnlyUnit 2#2 s t :=
  ⟨fun _ => ⟨it, calls⟩, by simp [tt], absurd rfl, fun _ => sfx⟩

theorem onlyUnit_sfx (it : t.it = s.it) (calls : t.irqCalls = s.irqCalls) (tt : t.tt = s.tt) (mt : t.mt = s.mt) :
    OnlyUnit 3#2 s t :=
  ⟨fun _ => ⟨it, calls⟩, by simp [tt], by simp [mt], absurd rfl⟩

end

/-- Rendering writes no register of any unit (45 R165). -/
theorem OnlyUnit.of_render {u : BitVec 2} {draw : DrawSource} {n : Nat} {s t : State}
    (h : OnlyUnit u (render draw n s) t) : OnlyUnit u s t where
  timer := by simpa using h.timer
  tone := by simpa using h.tone
  music := by simpa using h.music
  sfx := by simpa using h.sfx

theorem onlyUnit_refl (u : BitVec 2) (s : State) : OnlyUnit u s s :=
  ⟨fun _ => ⟨rfl, rfl⟩, fun _ => ⟨rfl, rfl, rfl, rfl⟩, fun _ => ⟨rfl, rfl, rfl, rfl, rfl⟩, fun _ => rfl⟩

theorem onlyUnit_busReadOpen (u : BitVec 2) (b : Byte) (s : State) : OnlyUnit u s (busReadOpen b s) :=
  { onlyUnit_refl u s with }

theorem musicCount_onlyUnit (ch : Chan) (d : Byte) (s : State) : OnlyUnit 2#2 s (musicCount ch d s) := by
  unfold musicCount
  split <;> exact onlyUnit_mt rfl rfl rfl rfl

theorem musicGate_onlyUnit (d : Byte) (s : State) : OnlyUnit 2#2 s (musicGate d s) := by
  unfold musicGate
  split <;> exact onlyUnit_mt rfl rfl rfl rfl

/-- Every operation but `RESET` writes registers of the unit it names alone; `RENDER` and `IT.ADV` carry the
timer's code (30 R68). -/
theorem exec_onlyUnit {i : Instr} {s t : State} (h : exec i s = .next t) (hi : i ≠ .reset) :
    OnlyUnit i.fields.unitSel s t := by
  cases i with
  | itWpad | itWpaddr | itWpbd | itWpbddr
  | itLd1 | itLd8 | itLd64 | itLd1k | itLd1i | itLd8i | itLd64i | itLd1ki | itWign | render =>
    cases h
    exact .of_render (onlyUnit_it rfl rfl rfl)
  | itRpad | itRpaddr | itRpbd | itRpbddr | itRflg | itRund | itAdv =>
    cases h
    exact onlyUnit_it rfl rfl rfl
  | itRcnt =>
    cases h
    rw [readCounter_eq]
    exact onlyUnit_it rfl rfl rfl
  | ttWcr | ttWmc | ttWmsb2 | ttWmsb4 | ttWmsb6 | ttWlsb0 | ttWlsb1 | ttWlsb2 =>
    cases h
    exact .of_render (onlyUnit_tt rfl rfl rfl rfl)
  | mtWcnt0 | mtWcnt1 | mtWcnt2 =>
    cases h
    exact .of_render (musicCount_onlyUnit _ _ _)
  | mtWgate =>
    cases h
    exact .of_render (musicGate_onlyUnit _ _)
  | sfxWctl | sfxWvol0 | sfxWvol1 | sfxWvol2 =>
    cases h
    exact .of_render (onlyUnit_sfx rfl rfl rfl rfl)
  | ttRund | mtRund | sfxRund =>
    cases h
    exact onlyUnit_busReadOpen _ _ s
  | reset => exact absurd rfl hi

/-- Settles O59: only the unit's own registers are written, and `RENDER` leaves the timer's alone too. -/
theorem unitsKeepApart : Obligations.UnitsKeepApart := by
  intro i s t h hi
  obtain ⟨timer, tone, music, sfx⟩ := exec_onlyUnit h hi
  refine ⟨fun other => ?_, tone, music, sfx⟩
  obtain otherUnit | ⟨n, rfl⟩ := other
  · exact timer otherUnit
  · cases h
    exact ⟨render_it .., render_irqCalls ..⟩

end Sys2Proof.Machine
end

section
/-! Proofs for 30_encoding: encoder and decoder are inverse (O1, O2, O5). -/

namespace Sys2Proof

open Laws

/-! ### From an operation to its record and back -/

/-- The lemmas of Laws/PerInstr.lean together: the decoder reads every well-formed operation's own fields as it. -/
theorem decodeFields_fields : ∀ i : Instr, i.wellFormed = true → decodeFields i.fields = .ok i
  | .itWpad d k => DecodeFields.itWpad d k
  | .itWpaddr d k => DecodeFields.itWpaddr d k
  | .itWpbd d k => DecodeFields.itWpbd d k
  | .itWpbddr d k => DecodeFields.itWpbddr d k
  | .itLd1 d k => DecodeFields.itLd1 d k
  | .itLd8 d k => DecodeFields.itLd8 d k
  | .itLd64 d k => DecodeFields.itLd64 d k
  | .itLd1k d k => DecodeFields.itLd1k d k
  | .itLd1i d k => DecodeFields.itLd1i d k
  | .itLd8i d k => DecodeFields.itLd8i d k
  | .itLd64i d k => DecodeFields.itLd64i d k
  | .itLd1ki d k => DecodeFields.itLd1ki d k
  | .itWign off d k => DecodeFields.itWign off d k
  | .itRpad => DecodeFields.itRpad
  | .itRpaddr => DecodeFields.itRpaddr
  | .itRpbd => DecodeFields.itRpbd
  | .itRpbddr => DecodeFields.itRpbddr
  | .itRcnt al => DecodeFields.itRcnt al
  | .itRflg al => DecodeFields.itRflg al
  | .itRund off => DecodeFields.itRund off
  | .ttWcr d k => DecodeFields.ttWcr d k
  | .ttWmc d k => DecodeFields.ttWmc d k
  | .ttWmsb2 d k => DecodeFields.ttWmsb2 d k
  | .ttWmsb4 d k => DecodeFields.ttWmsb4 d k
  | .ttWmsb6 d k => DecodeFields.ttWmsb6 d k
  | .ttWlsb0 d k => DecodeFields.ttWlsb0 d k
  | .ttWlsb1 d k => DecodeFields.ttWlsb1 d k
  | .ttWlsb2 d k => DecodeFields.ttWlsb2 d k
  | .ttRund off => DecodeFields.ttRund off
  | .mtWcnt0 d k => DecodeFields.mtWcnt0 d k
  | .mtWcnt1 d k => DecodeFields.mtWcnt1 d k
  | .mtWcnt2 d k => DecodeFields.mtWcnt2 d k
  | .mtWgate d k => DecodeFields.mtWgate d k
  | .mtRund off => DecodeFields.mtRund off
  | .sfxWctl d k => DecodeFields.sfxWctl d k
  | .sfxWvol0 d k => DecodeFields.sfxWvol0 d k
  | .sfxWvol1 d k => DecodeFields.sfxWvol1 d k
  | .sfxWvol2 d k => DecodeFields.sfxWvol2 d k
  | .sfxRund off => DecodeFields.sfxRund off
  | .render n => DecodeFields.render n
  | .itAdv t => DecodeFields.itAdv t
  | .reset => DecodeFields.reset

/-- Settles O1: a record is unpacked into the fields it was packed from. -/
theorem decodeGivesBackEncodedOperation : Obligations.DecodeGivesBackEncodedOperation := by
  intro i h
  rw [decode, encode, fieldsOf_pack]
  exact decodeFields_fields i h

/-! ### The decoder, by the kind of the record (30 R61) -/

/-- The five kinds and the reserved ones. -/
theorem kind_cases (kind : BitVec 4) :
    kind = 0#4 ∨ kind = 1#4 ∨ kind = 2#4 ∨ kind = 3#4 ∨ kind = 4#4 ∨ 5 ≤ kind.toNat := by
  revert kind
  decide

section
variable (u : BitVec 2) (off : BitVec 5) (d : Byte) (k : BitVec 32)

theorem decodeFields_kind0 : decodeFields ⟨0#4, u, off, 0#5, d, 0#8, k⟩ =
    if d = 0#8 ∧ k = 0#32 then decodeRead (unitOf u) off else .error .readOperand := rfl

theorem decodeFields_kind1 : decodeFields ⟨1#4, u, off, 0#5, d, 0#8, k⟩ = decodeWrite (unitOf u) off d k := rfl

theorem decodeFields_kind2 : decodeFields ⟨2#4, u, off, 0#5, d, 0#8, k⟩ =
    if u = 0#2 ∧ off = 0#5 ∧ d = 0#8 then .ok (.render k) else .error .busField := by
  simp [decodeFields, busFieldsZero, and_assoc]

theorem decodeFields_kind3 : decodeFields ⟨3#4, u, off, 0#5, d, 0#8, k⟩ =
    if u = 0#2 ∧ off = 0#5 ∧ d = 0#8 then .ok (.itAdv k) else .error .busField := by
  simp [decodeFields, busFieldsZero, and_assoc]

theorem decodeFields_kind4 : decodeFields ⟨4#4, u, off, 0#5, d, 0#8, k⟩ =
    if u = 0#2 ∧ off = 0#5 ∧ d = 0#8 then if k = 0#32 then .ok .reset else .error .resetCount
    else .error .busField := by
  simp [decodeFields, busFieldsZero, and_assoc]

end

theorem decodeFields_kindReserved {kind : BitVec 4} (h : 5 ≤ kind.toNat) (u : BitVec 2) (off : BitVec 5) (d : Byte)
    (k : BitVec 32) : decodeFields ⟨kind, u, off, 0#5, d, 0#8, k⟩ = .error .kind := by
  unfold decodeFields
  dsimp only
  rw [if_neg (by simp)]
  split
  case h_6 => rfl
  all_goals omega

theorem decodeFields_zeroField {f : Fields} (h : f.z1 ≠ 0#5 ∨ f.z2 ≠ 0#8) : decodeFields f = .error .zeroField :=
  if_pos h

section
variable {c : Prop} [Decidable c] {x : Except Reserved Instr} {why : Reserved}

/-- A guarded row decodes where its guard holds and the row decodes. -/
theorem guarded_ok_iff {i : Instr} : (if c then x else .error why) = .ok i ↔ c ∧ x = .ok i := by
  split <;> simp [*]

/-- A guarded row refuses where its guard fails or the row refuses. -/
theorem guarded_refuses_iff :
    (∃ e, (if c then x else .error why) = .error e) ↔ ¬ c ∨ ∃ e, x = .error e := by
  split <;> simp [*]

end

/-! ### From a record to its operation and back -/

/-- The operation of a write row has the row's fields: over the four units and the 32 offsets. -/
theorem fields_of_decodeWrite {u : BusUnit} {off : BitVec 5} {d : Byte} {k : BitVec 32} {i : Instr}
    (h : decodeWrite u off d k = .ok i) : i.fields = writeFields u off d k ∧ i.wellFormed = true := by
  obtain ⟨off⟩ := off
  cases u <;> fin_cases off <;> cases h <;> exact ⟨rfl, rfl⟩

/-- The operation of a read row has the row's fields: over the four units and the 32 offsets. -/
theorem fields_of_decodeRead {u : BusUnit} {off : BitVec 5} {i : Instr} (h : decodeRead u off = .ok i) :
    i.fields = readFields u off ∧ i.wellFormed = true := by
  obtain ⟨off⟩ := off
  cases u <;> fin_cases off <;> cases h <;> exact ⟨rfl, rfl⟩

/-- The fields that decode are those of their operation, by the five kinds of 30 R61. -/
theorem fields_of_decodeFields {f : Fields} {i : Instr} (h : decodeFields f = .ok i) :
    i.fields = f ∧ i.wellFormed = true := by
  obtain ⟨kind, u, off, z1, d, z2, k⟩ := f
  by_cases zero : z1 ≠ 0#5 ∨ z2 ≠ 0#8
  · cases (decodeFields_zeroField zero).symm.trans h
  obtain ⟨rfl, rfl⟩ : z1 = 0#5 ∧ z2 = 0#8 := by simpa using zero
  obtain rfl | rfl | rfl | rfl | rfl | reserved := kind_cases kind
  · rw [decodeFields_kind0, guarded_ok_iff] at h
    obtain ⟨⟨rfl, rfl⟩, row⟩ := h
    obtain ⟨fields, wf⟩ := fields_of_decodeRead row
    exact ⟨by rw [fields, readFields, unitCode_unitOf], wf⟩
  · rw [decodeFields_kind1] at h
    obtain ⟨fields, wf⟩ := fields_of_decodeWrite h
    exact ⟨by rw [fields, writeFields, unitCode_unitOf], wf⟩
  · rw [decodeFields_kind2, guarded_ok_iff] at h
    obtain ⟨⟨rfl, rfl, rfl⟩, ⟨⟩⟩ := h
    exact ⟨rfl, rfl⟩
  · rw [decodeFields_kind3, guarded_ok_iff] at h
    obtain ⟨⟨rfl, rfl, rfl⟩, ⟨⟩⟩ := h
    exact ⟨rfl, rfl⟩
  · rw [decodeFields_kind4, guarded_ok_iff, guarded_ok_iff] at h
    obtain ⟨⟨rfl, rfl, rfl⟩, rfl, ⟨⟩⟩ := h
    exact ⟨rfl, rfl⟩
  · cases (decodeFields_kindReserved reserved ..).symm.trans h

/-- Settles O2: the record is packed from the fields it was unpacked into. -/
theorem encodeGivesBackDecodedRecord : Obligations.EncodeGivesBackDecodedRecord := by
  intro w i h
  obtain ⟨fields, wf⟩ := fields_of_decodeFields h
  exact ⟨by rw [encode, fields, pack_fieldsOf], wf⟩

/-- Settles O5: each record is computed. -/
theorem writtenRecordsDecode : Obligations.WrittenRecordsDecode := ⟨rfl, rfl, rfl, rfl, rfl, rfl⟩

end Sys2Proof
end

section
/-! Proofs for 30_encoding: the reserved records and the opcode table (O3, O4). -/

namespace Sys2Proof

/-! ### The reserved records (30 R68) -/

/-- 30 R68's list, over the fields of a record. -/
def Fields.IsReserved (f : Fields) : Prop :=
  (5 ≤ f.kind.toNat ∨ f.z1 ≠ 0#5 ∨ f.z2 ≠ 0#8) ∨
  (f.unitSel = 1#2 ∧ 7 < f.off.toNat) ∨
  ((f.unitSel = 2#2 ∨ f.unitSel = 3#2) ∧ 3 < f.off.toNat) ∨
  (f.kind = 0#4 ∧ (f.data ≠ 0#8 ∨ f.cnt ≠ 0#32)) ∨
  ((f.kind = 2#4 ∨ f.kind = 3#4 ∨ f.kind = 4#4) ∧ (f.unitSel ≠ 0#2 ∨ f.off ≠ 0#5 ∨ f.data ≠ 0#8)) ∨
  (f.kind = 4#4 ∧ f.cnt ≠ 0#32)

/-- The offset lies beyond the unit's width (30 R68). -/
abbrev beyondUnit (u : BitVec 2) (off : BitVec 5) : Prop :=
  (u = 1#2 ∧ 7 < off.toNat) ∨ ((u = 2#2 ∨ u = 3#2) ∧ 3 < off.toNat)

theorem decodeRead_refuses_iff (u : BitVec 2) (off : BitVec 5) :
    (∃ why, decodeRead (unitOf u) off = .error why) ↔ beyondUnit u off := by
  obtain ⟨u⟩ := u
  fin_cases u <;> simp only [decodeRead, unitOf, BitVec.toNat_ofFin] <;> split <;> simp_all [beyondUnit]

theorem decodeWrite_refuses_iff (u : BitVec 2) (off : BitVec 5) (d : Byte) (k : BitVec 32) :
    (∃ why, decodeWrite (unitOf u) off d k = .error why) ↔ beyondUnit u off := by
  obtain ⟨u⟩ := u
  fin_cases u <;> simp only [decodeWrite, unitOf, BitVec.toNat_ofFin] <;> split <;> simp_all [beyondUnit] <;> omega

/-- The decoder refuses the fields of 30 R68's list and no others. -/
theorem decodeFields_refuses_iff (f : Fields) : (∃ why, decodeFields f = .error why) ↔ f.IsReserved := by
  obtain ⟨kind, u, off, z1, d, z2, k⟩ := f
  by_cases zero : z1 ≠ 0#5 ∨ z2 ≠ 0#8
  · exact iff_of_true ⟨_, decodeFields_zeroField zero⟩ (.inl (.inr zero))
  obtain ⟨rfl, rfl⟩ : z1 = 0#5 ∧ z2 = 0#8 := by simpa using zero
  obtain rfl | rfl | rfl | rfl | rfl | reserved := kind_cases kind
  · rw [decodeFields_kind0, guarded_refuses_iff, decodeRead_refuses_iff]
    simp [Fields.IsReserved, imp_iff_not_or, or_assoc, or_comm, or_left_comm]
  · rw [decodeFields_kind1, decodeWrite_refuses_iff]
    simp [Fields.IsReserved, beyondUnit]
  · rw [decodeFields_kind2, guarded_refuses_iff]
    by_cases timer : u = 0#2 <;> simp [Fields.IsReserved, timer, imp_iff_not_or]
  · rw [decodeFields_kind3, guarded_refuses_iff]
    by_cases timer : u = 0#2 <;> simp [Fields.IsReserved, timer, imp_iff_not_or]
  · rw [decodeFields_kind4, guarded_refuses_iff, guarded_refuses_iff]
    by_cases timer : u = 0#2 <;> simp [Fields.IsReserved, timer, imp_iff_not_or, or_assoc]
  · exact iff_of_true ⟨_, decodeFields_kindReserved reserved ..⟩ (.inl (.inl reserved))

/-- A reserved record at the head of the queue stops the step (log 3). -/
theorem Machine.step_of_reserved {s : State} {w : Record} {rest : List Record} {why : Reserved}
    (ht : s.trace = w :: rest) (hd : decode w = .error why) : step s = .refused (.reservedRecord why) := by
  simp only [step, ht, hd]

/-- Settles O4: the list is the decoder's, case by case, and the step asks the decoder. -/
theorem reservedRecordsAreRefused : Obligations.ReservedRecordsAreRefused := fun w =>
  ⟨(decodeFields_refuses_iff (fieldsOf w)).symm, fun _ _ _ hd ht => Machine.step_of_reserved ht hd⟩

/-! ### The opcode table (30 R66) -/

/-- The patterns differ in a bit that both masks keep. -/
abbrev OpcodeRow.Disjoint (r r' : OpcodeRow) : Prop := r.pattern &&& r'.mask ≠ r'.pattern &&& r.mask

theorem OpcodeRow.Disjoint.not_covers {r r' : OpcodeRow} (h : r.Disjoint r') {w : Record} (hr : r.covers w = true) :
    ¬ r'.covers w = true := by
  rw [OpcodeRow.covers, beq_iff_eq] at hr ⊢
  intro hr'
  apply h
  rw [← hr, ← hr', BitVec.and_assoc, BitVec.and_assoc, BitVec.and_comm r.mask]

/-- A look at the patterns and masks of each two rows. -/
theorem opcodeTable_pairwise_disjoint : opcodeTable.Pairwise OpcodeRow.Disjoint := by decide

theorem row_unique {r r' : OpcodeRow} (hr : r ∈ opcodeTable) (hr' : r' ∈ opcodeTable) {w : Record}
    (h : r.covers w = true) (h' : r'.covers w = true) : r' = r := by
  have : Std.Symm OpcodeRow.Disjoint := ⟨fun _ _ => Ne.symm⟩
  by_contra ne
  exact (opcodeTable_pairwise_disjoint.forall hr' hr ne).not_covers h' h

/-- A mask that keeps a field or drops it. -/
theorem and_mask_eq_zero_iff {n : Nat} (c : Prop) [Decidable c] (x : BitVec n) :
    x &&& (if c then .allOnes n else 0#n) = 0#n ↔ (c → x = 0#n) := by
  split <;> simp [*]

/-- The mask and the pattern of every row: kind and unit fixed; the two zero fields fixed at 0; the data fixed at 0
but in a write, and the count in the kinds that carry none. -/
theorem row_fields : ∀ r ∈ opcodeTable,
    ((fieldsOf r.mask).kind = .allOnes 4 ∧ (fieldsOf r.mask).unitSel = .allOnes 2 ∧
      (fieldsOf r.mask).z1 = .allOnes 5 ∧ (fieldsOf r.mask).z2 = .allOnes 8 ∧
      (fieldsOf r.mask).data = (if (fieldsOf r.pattern).kind ≠ 1#4 then .allOnes 8 else 0#8) ∧
      (fieldsOf r.mask).cnt =
        if (fieldsOf r.pattern).kind = 0#4 ∨ (fieldsOf r.pattern).kind = 4#4 then .allOnes 32 else 0#32) ∧
    (fieldsOf r.pattern).z1 = 0#5 ∧ (fieldsOf r.pattern).z2 = 0#8 ∧ (fieldsOf r.pattern).data = 0#8 ∧
      (fieldsOf r.pattern).cnt = 0#32 := by
  decide

/-- What a row of the table asks of the fields of a record. -/
theorem covers_iff_fields {r : OpcodeRow} (hr : r ∈ opcodeTable) (w : Record) :
    r.covers w = true ↔
      (fieldsOf w).kind = (fieldsOf r.pattern).kind ∧ (fieldsOf w).unitSel = (fieldsOf r.pattern).unitSel ∧
      (fieldsOf w).off &&& (fieldsOf r.mask).off = (fieldsOf r.pattern).off ∧ (fieldsOf w).z1 = 0#5 ∧
      ((fieldsOf r.pattern).kind ≠ 1#4 → (fieldsOf w).data = 0#8) ∧ (fieldsOf w).z2 = 0#8 ∧
      ((fieldsOf r.pattern).kind = 0#4 ∨ (fieldsOf r.pattern).kind = 4#4 → (fieldsOf w).cnt = 0#32) := by
  obtain ⟨⟨mKind, mUnit, mZ1, mZ2, mData, mCnt⟩, pZ1, pZ2, pData, pCnt⟩ := row_fields r hr
  rw [OpcodeRow.covers_iff, mKind, mUnit, mZ1, mZ2, mData, mCnt, pZ1, pZ2, pData, pCnt, and_mask_eq_zero_iff,
    and_mask_eq_zero_iff, BitVec.and_allOnes, BitVec.and_allOnes, BitVec.and_allOnes, BitVec.and_allOnes]

/-- A row admits only offsets of the unit's width, and none in the operations that are no bus cycle (30 R68). -/
theorem row_offset : ∀ r ∈ opcodeTable, (fieldsOf r.pattern).kind.toNat < 5 ∧
    ∀ off : BitVec 5, off &&& (fieldsOf r.mask).off = (fieldsOf r.pattern).off →
      ¬ beyondUnit (fieldsOf r.pattern).unitSel off ∧
      ((fieldsOf r.pattern).kind = 2#4 ∨ (fieldsOf r.pattern).kind = 3#4 ∨ (fieldsOf r.pattern).kind = 4#4 →
        (fieldsOf r.pattern).unitSel = 0#2 ∧ off = 0#5) := by
  decide

/-- A record of a row is not reserved: no clause of the list is met by its fields. -/
theorem not_isReserved_of_covers {r : OpcodeRow} (hr : r ∈ opcodeTable) {w : Record} (h : r.covers w = true) :
    ¬ (fieldsOf w).IsReserved := by
  obtain ⟨kind, unitSel, off, z1, data, z2, cnt⟩ := (covers_iff_fields hr w).1 h
  obtain ⟨kindBound, offsets⟩ := row_offset r hr
  obtain ⟨within, bus⟩ := offsets _ off
  rw [← kind] at kindBound bus data cnt
  rw [← unitSel] at within bus
  rintro ((reserved | nonzero | nonzero) | beyond | beyond | ⟨read, nonzero⟩ | ⟨countOnly, nonzero⟩ |
    ⟨reset, nonzero⟩)
  · omega
  · exact nonzero z1
  · exact nonzero z2
  · exact within (.inl beyond)
  · exact within (.inr beyond)
  · obtain nonzero | nonzero := nonzero
    · exact nonzero (data (by simp [read]))
    · exact nonzero (cnt (.inl read))
  · obtain ⟨unitZero, offZero⟩ := bus countOnly
    have notWrite : (fieldsOf w).kind ≠ 1#4 := by
      intro write
      simp [write] at countOnly
    obtain nonzero | nonzero | nonzero := nonzero
    · exact nonzero unitZero
    · exact nonzero offZero
    · exact nonzero (data notWrite)
  · exact nonzero (cnt (.inr reset))

/-- Some row of the table with this mnemonic covers the record. -/
abbrev HasRow (mnemonic : String) (w : Record) : Prop :=
  ∃ r ∈ opcodeTable, r.mnemonic = mnemonic ∧ r.covers w = true

/-- The rows of a write look at neither its byte nor its flush count. -/
theorem hasRow_write {m : String} {u : BusUnit} {off : BitVec 5} (h : HasRow m (pack (writeFields u off 0#8 0#32)))
    (d : Byte) (k : BitVec 32) : HasRow m (pack (writeFields u off d k)) := by
  obtain ⟨r, hr, name, covers⟩ := h
  refine ⟨r, hr, name, ?_⟩
  rw [covers_iff_fields hr, fieldsOf_pack] at covers ⊢
  obtain ⟨kind, unitSel, off, z1, -, z2, -⟩ := covers
  refine ⟨kind, unitSel, off, z1, absurd kind.symm, z2, fun h => ?_⟩
  simp [← kind, writeFields] at h

/-- The rows of `RENDER` and `IT.ADV` do not look at the count. -/
theorem hasRow_count {m : String} {kind : BitVec 4} (h : HasRow m (pack (countFields kind 0#32)))
    (hk : kind ≠ 0#4 ∧ kind ≠ 4#4) (n : BitVec 32) : HasRow m (pack (countFields kind n)) := by
  obtain ⟨r, hr, name, covers⟩ := h
  refine ⟨r, hr, name, ?_⟩
  rw [covers_iff_fields hr, fieldsOf_pack] at covers ⊢
  obtain ⟨kind, unitSel, off, z1, data, z2, -⟩ := covers
  refine ⟨kind, unitSel, off, z1, data, z2, fun h => ?_⟩
  simp [← kind, countFields, hk] at h

/-- Every well-formed operation has its row: the closed part of its record is looked up in the table. -/
theorem hasRow_encode {i : Instr} (h : i.wellFormed = true) : HasRow i.mnemonic (encode i) := by
  cases i with
  | itWpad d k | itWpaddr d k | itWpbd d k | itWpbddr d k
  | itLd1 d k | itLd8 d k | itLd64 d k | itLd1k d k | itLd1i d k | itLd8i d k | itLd64i d k | itLd1ki d k
  | ttWcr d k | ttWmc d k | ttWmsb2 d k | ttWmsb4 d k | ttWmsb6 d k | ttWlsb0 d k | ttWlsb1 d k | ttWlsb2 d k
  | mtWcnt0 d k | mtWcnt1 d k | mtWcnt2 d k | mtWgate d k
  | sfxWctl d k | sfxWvol0 d k | sfxWvol1 d k | sfxWvol2 d k =>
    simp only [Instr.mnemonic]
    exact hasRow_write (by decide) d k
  | itWign off d k =>
    refine hasRow_write ?_ d k
    simp only [Instr.mnemonic, Instr.wellFormed] at h ⊢
    revert off
    decide
  | itRpad | itRpaddr | itRpbd | itRpbddr | reset => decide
  | itRcnt al | itRflg al =>
    revert al
    decide
  | itRund off | ttRund off | mtRund off | sfxRund off =>
    revert off
    decide
  | render n | itAdv n =>
    simp only [Instr.mnemonic]
    exact hasRow_count (by decide) (by decide) n

/-- A record that decodes has the row of its operation, whose record it is. -/
theorem hasRow_of_decoded {w : Record} {i : Instr} (h : decode w = .ok i) : HasRow i.mnemonic w := by
  obtain ⟨record, wf⟩ := encodeGivesBackDecodedRecord w i h
  exact record ▸ hasRow_encode wf

/-- Settles O3: the rows are disjoint, every operation has one, and none covers a reserved record. -/
theorem decoderFollowsOpcodeTable : Obligations.DecoderFollowsOpcodeTable := by
  refine ⟨fun w i h => ?_, fun w => ⟨fun noRow => ?_, fun refused r hr => ?_⟩⟩
  · obtain ⟨r, hr, name, covers⟩ := hasRow_of_decoded h
    exact ⟨r, hr, covers, name, fun r' hr' => row_unique hr hr' covers⟩
  · cases hd : decode w with
    | error why => exact ⟨why, rfl⟩
    | ok i =>
      obtain ⟨r, hr, -, covers⟩ := hasRow_of_decoded hd
      exact absurd covers (by simp [noRow r hr])
  · rw [Bool.eq_false_iff]
    exact fun covers => not_isReserved_of_covers hr covers ((decodeFields_refuses_iff _).1 refused)

end Sys2Proof
end

section
/-! Proofs for 30_encoding: the pseudo-operations of a trace as runs (O37). -/

namespace Sys2Proof.Machine

/-! ### Runs -/

theorem runOps_cons {i : Instr} {is : List Instr} {s t : State} (h : exec i s = .next t) :
    runOps (i :: is) s = runOps is t := by
  simp only [runOps, h]

/-- A run of two operations that answer a state each. -/
theorem runOps_pair {i j : Instr} {s t u : State} (hi : exec i s = .next t) (hj : exec j t = .next u) :
    runOps [i, j] s = .next u := by
  rw [runOps_cons hi, runOps_cons hj, runOps]

/-- A write with nothing to flush is its mutation (45 R174). -/
theorem busWrite_noFlush (mutate : State → State) (s : State) : busWrite 0#32 mutate s = .next (mutate s) := by
  rw [busWrite, BitVec.toNat_ofNat, Nat.zero_mod, render_zero]

/-! ### The operations of an expansion (30 R73) -/

theorem exec_toneCommitOp (ch : Chan) (d : Byte) (s : State) :
    exec (toneCommitOp ch d) s = .next (commitTone ch d s) := by
  cases ch <;> exact busWrite_noFlush _ s

theorem exec_musicCountOp (ch : Chan) (d : Byte) (s : State) :
    exec (musicCountOp ch d) s = .next (musicCount ch d s) := by
  cases ch <;> exact busWrite_noFlush _ s

theorem countOf_bytes (v : Count) : countOf (highByte v) (lowByte v) = v := by
  apply BitVec.eq_of_toNat_eq
  rw [toNat_countOf, highByte, lowByte, BitVec.extractLsb'_toNat, BitVec.extractLsb'_toNat, Nat.shiftRight_eq_div_pow]
  omega

theorem highByte_eq (v : Count) : highByte v = BitVec.ofNat 8 (v.toNat / 256) := by
  rw [highByte, BitVec.extractLsb', Nat.shiftRight_eq_div_pow]

/-- The low half of a count write, then the high half: the toggle comes back to 0 (44 R151). -/
theorem musicCount_lowThenHigh {ch : Chan} {s : State} (toggle : s.mt.mtToggle.get ch = false) (v : Count) :
    musicCount ch (highByte v) (musicCount ch (lowByte v) s) =
      { s with
        mt := { s.mt with
          mtLow := s.mt.mtLow.set ch (lowByte v)
          mtCount := s.mt.mtCount.set ch v
          mtStep := s.mt.mtStep.set ch (freqStep s.cfg v) } } := by
  have low : musicCount ch (lowByte v) s = musicLow ch (lowByte v) s := by simp [musicCount, toggle]
  have high : musicCount ch (highByte v) (musicLow ch (lowByte v) s) =
      musicHigh ch (highByte v) (musicLow ch (lowByte v) s) := by simp [musicCount]
  have toggleBack : s.mt.mtToggle.set ch false = s.mt.mtToggle := by rw [← toggle, Trio.set_get]
  rw [low, high]
  simp [musicHigh, musicLow, countOf_bytes, toggleBack]

theorem runLine_ttSetCount (ch : Chan) (v : Count) (s : State) :
    runLine (.ttSetCount ch v) s = some (.next (commitTone ch (lowByte v) (latchMsb (highByte v) s))) :=
  congrArg some (runOps_pair (busWrite_noFlush _ s) (exec_toneCommitOp ..))

theorem runLine_mtSetCount (ch : Chan) (v : Count) (s : State) :
    runLine (.mtSetCount ch v) s = some (.next (musicCount ch (highByte v) (musicCount ch (lowByte v) s))) :=
  congrArg some (runOps_pair (exec_musicCountOp ..) (exec_musicCountOp ..))

theorem controlTarget_set (cr1 : Byte) : controlTarget (cr1 ||| 0x01#8) = .ch0 := by
  simp [controlTarget, crSelect]

theorem controlTarget_clear (cr1 : Byte) : controlTarget (cr1 &&& 0xFE#8) = .ch2 := by
  simp [controlTarget, crSelect]

theorem exec_ttWmc_noFlush (d : Byte) (s : State) : exec (.ttWmc d 0#32) s = .next (setToneControl .ch1 d s) :=
  busWrite_noFlush _ s

theorem exec_ttWcr_noFlush (d : Byte) (s : State) :
    exec (.ttWcr d 0#32) s = .next (setToneControl (controlTarget s.tt.ttCr.ch1) d s) :=
  busWrite_noFlush (fun u => setToneControl (controlTarget u.tt.ttCr.ch1) d u) s

/-- A write of channel 1's control byte, then one to the shared port, which goes where bit 0 of the first says
(43 R131, R132). -/
theorem runOps_controls (e d : Byte) (s : State) :
    runOps [.ttWmc e 0#32, .ttWcr d 0#32] s =
      .next (setToneControl (controlTarget e) d (setToneControl .ch1 e s)) :=
  runOps_pair (exec_ttWmc_noFlush e s) (exec_ttWcr_noFlush d _)

/-- Settles O37: each line is the run of its expansion, and bit 0 of channel 1's byte leads the shared port to its
channel. -/
theorem pseudoOperationsReachTheirTarget : Obligations.PseudoOperationsReachTheirTarget := by
  refine ⟨fun ch v s => ?_, fun ch v s toggle => ?_, fun v s =>
    ⟨congrArg some ?_, congrArg some ?_, congrArg some ?_⟩⟩
  · rw [runLine_ttSetCount, ← highByte_eq]
    simp [commitTone, latchMsb, countOf_bytes]
  · rw [runLine_mtSetCount, musicCount_lowThenHigh toggle]
    rfl
  · rw [runOps_controls, controlTarget_set]
    rfl
  · rw [runOps_cons (exec_ttWmc_noFlush v s)]
    rfl
  · rw [runOps_controls, controlTarget_clear]
    rfl

end Sys2Proof.Machine
end

section
/-! Proofs for 40_phase_accumulator: `Advance` and a constant step (O14, O15), `FreqStep` and the re-initialisation
(O16, O12), and a sample rate of 0 (O13). -/

namespace Sys2Proof.Machine

/-! ### `Advance` and the waveform of a constant step (40 R81, R86, R87) -/

theorem advance_fst_toNat (p st : Phase) (hb : Nat) :
    (advance p st hb).1.toNat = (p.toNat + st.toNat) % 2 ^ 32 :=
  BitVec.toNat_add p st

/-- The test reads the sum. -/
theorem advance_snd (p st : Phase) (hb : Nat) : (advance p st hb).2 = (advance p st hb).1.toNat.testBit hb :=
  (BitVec.testBit_toNat _).symm

/-- Settles O14, at every bit position. -/
theorem advanceAddsThenTestsTheSum : Obligations.AdvanceAddsThenTestsTheSum :=
  fun p st hb _ => ⟨advance_fst_toNat p st hb, by rw [advance_snd, advance_fst_toNat]⟩

/-- The phase of a channel with a constant step after `n` samples (40 R87). -/
def constantStepPhase (p st : Phase) (n : Nat) : Phase := p + BitVec.ofNat 32 n * st

theorem constantStepPhase_zero (p st : Phase) : constantStepPhase p st 0 = p := by simp [constantStepPhase]

theorem constantStepPhase_succ (p st : Phase) (n : Nat) :
    constantStepPhase p st (n + 1) = constantStepPhase p st n + st := by
  rw [constantStepPhase, constantStepPhase, BitVec.ofNat_add, BitVec.add_mul, BitVec.one_mul, BitVec.add_assoc]

theorem toNat_constantStepPhase (p st : Phase) (n : Nat) :
    (constantStepPhase p st n).toNat = (p.toNat + n * st.toNat) % 2 ^ 32 := by
  rw [constantStepPhase, BitVec.toNat_add, BitVec.toNat_mul, BitVec.toNat_ofNat, Nat.mod_mul_mod, Nat.add_mod_mod]

/-- Settles O15: the phases form a progression, along which the zeroed buffer is walked. -/
theorem constantStepWaveform : Obligations.ConstantStepWaveform := by
  intro hb v st p n
  have walked := walk_buffer (hb := hb) (v := v) (inc := fun _ => st) (j := 0) (constantStepPhase_succ p st)
    (fun _ => 0) n
  rw [constantStepPhase_zero, ← replicate_eq_buffer] at walked
  refine ⟨congrArg Prod.fst walked, (congrArg Prod.snd walked).trans (List.map_congr_left fun i _ => ?_)⟩
  rw [← toNat_constantStepPhase, BitVec.testBit_toNat]
  simp only [Nat.zero_add]
  split
  · rw [BitVec.ofNat_toNat, BitVec.setWidth_eq]
  · rfl

/-! ### `FreqStep` (40 R83, R84, R85; decision D4) -/

/-- `rdiv` is the nearest natural to the quotient, and the upper one at a tie (00_scope section 5). -/
theorem rdiv_nearest (a : Nat) {b : Nat} (hb : 0 < b) :
    2 * rdiv a b * b ≤ 2 * a + b ∧ 2 * a < (2 * rdiv a b + 1) * b := by
  have low : rdiv a b * (2 * b) ≤ 2 * a + b := Nat.div_mul_le_self ..
  have high : 2 * a + b < (rdiv a b + 1) * (2 * b) := Nat.lt_mul_of_div_lt (Nat.lt_succ_self _) (by omega)
  constructor <;> linarith

/-- `q` is within 1 of the exact quotient `a / b`, for a positive `b` (decision D4). -/
def Within1 (q a b : Nat) : Prop := q * b ≤ a + b ∧ a ≤ (q + 1) * b

/-- The upper quotient exceeds the lower one by at most 1. -/
theorem upperQuotient_le (a : Nat) {b : Nat} (hb : 0 < b) : (a + b - 1) / b ≤ a / b + 1 :=
  (Nat.div_le_div_right (Nat.sub_le ..)).trans_eq (Nat.add_div_right a hb)

/-- The naturals from one below the upper quotient to one above the lower quotient are within 1. -/
theorem within1_of_bounds {q a b : Nat} (hb : 0 < b) (low : (a + b - 1) / b ≤ q + 1) (high : q ≤ a / b + 1) :
    Within1 q a b := by
  constructor
  · calc q * b ≤ (a / b + 1) * b := Nat.mul_le_mul_right b high
      _ = a / b * b + b := Nat.succ_mul ..
      _ ≤ a + b := Nat.add_le_add_right (Nat.div_mul_le_self a b) b
  · have above : a + b - 1 < (q + 1 + 1) * b := (Nat.div_lt_iff_lt_mul hb).mp (Nat.lt_succ_of_le low)
    rw [Nat.succ_mul] at above
    omega

/-- Every rounding stays within 1 of the quotient (log 13). -/
theorem stepQuotient_within1 (r : StepRound) (a : Nat) {b : Nat} (hb : 0 < b) : Within1 (stepQuotient r a b) a b := by
  have gap := upperQuotient_le a hb
  cases r with
  | nearest =>
    obtain ⟨low, high⟩ := rdiv_nearest a hb
    constructor <;> rw [stepQuotient] <;> linarith
  | down => exact within1_of_bounds hb gap (Nat.le_succ _)
  | up => exact within1_of_bounds hb (Nat.le_succ _) gap
  | within1 =>
    have room : 0 < a / b + 2 - ((a + b - 1) / b - 1) :=
      Nat.sub_pos_of_lt (((Nat.sub_le ..).trans gap).trans_lt (Nat.lt_succ_self _))
    exact within1_of_bounds hb (Nat.sub_le_iff_le_add.mp (Nat.le_add_right ..))
      (Nat.le_of_lt_succ (Nat.add_lt_of_lt_sub' (Nat.mod_lt _ room)))

theorem freqStep_of_zero {c : Config} {count : Count} (h : c.sampleRate = 0 ∨ count = 0#16) :
    freqStep c count = 0#32 := by
  obtain rate | rfl := h
  · rw [freqStep, if_pos rate]
  · exact freqStep_zero c

theorem freqStep_of_nonzero {c : Config} {count : Count} (rate : c.sampleRate ≠ 0) (hc : count ≠ 0#16) :
    freqStep c count =
      BitVec.ofNat 32 (stepQuotient c.stepRound (c.stepOne * c.masterClock) (count.toNat * c.sampleRate)) := by
  rw [freqStep, if_neg rate, if_neg hc]

/-- Settles O16: the step is the quotient that `STEP_ROUND` asks for. -/
theorem freqStepIsTheNearestQuotient : Obligations.FreqStepIsTheNearestQuotient := by
  rintro c count ⟨-, -, -, -, stepOne, -⟩
  refine ⟨freqStep_of_zero, fun rate nonzero => ?_⟩
  have divisor : 0 < count.toNat * c.sampleRate :=
    Nat.mul_pos (Nat.pos_of_ne_zero fun h => nonzero (BitVec.eq_of_toNat_eq h)) (Nat.pos_of_ne_zero rate)
  obtain ⟨low, high⟩ := stepQuotient_within1 c.stepRound (2 ^ 24 * c.masterClock) divisor
  refine ⟨_, stepOne ▸ freqStep_of_nonzero rate nonzero, low, high, fun nearest => ?_⟩
  rw [nearest]
  exact rdiv_nearest _ divisor

/-- Settles O12, channel by channel. -/
theorem reinitialiseRecomputesSteps : Obligations.ReinitialiseRecomputesSteps := by
  intro rate s ch
  cases ch <;> exact ⟨rfl, rfl, rfl, rfl⟩

/-! ### A sample rate of 0 (40 R84; 41 R92) -/

/-- The rate, all steps and all phases are 0: no channel ever gets high (40 R84). -/
structure Silent (s : State) : Prop where
  zeroRate : s.cfg.sampleRate = 0
  toneSteps : ∀ ch, s.tt.ttStep.get ch = 0#32
  musicSteps : ∀ ch, s.mt.mtStep.get ch = 0#32
  tonePhases : ∀ ch, s.tt.ttPhase.get ch = 0#32
  musicPhases : ∀ ch, s.mt.mtPhase.get ch = 0#32

section

variable {s : State} (silent : Silent s)
include silent

/-- A noisy channel has no increment either, as its average step is 0 (41 R92). -/
theorem Silent.toneIncrement_eq_zero (draw : DrawSource) (ch : Chan) (i : Nat) : toneIncrement draw s ch i = 0#32 := by
  unfold toneIncrement
  split
  · rw [noiseIncAt, noiseInc, avgStep, if_pos (.inl silent.zeroRate), BitVec.zero_mul]
  · exact silent.toneSteps ch

theorem Silent.tonePhaseAfter_eq_zero (draw : DrawSource) (ch : Chan) (i : Nat) : tonePhaseAfter draw s ch i = 0#32 := by
  induction i with
  | zero => exact silent.tonePhases ch
  | succ i ih => rw [tonePhaseAfter, ih, silent.toneIncrement_eq_zero, BitVec.add_zero]

theorem Silent.musicPhaseAfter_eq_zero (ch : Chan) (i : Nat) : musicPhaseAfter s ch i = 0#32 := by
  rw [musicPhaseAfter, silent.musicPhases, silent.musicSteps, BitVec.mul_zero, BitVec.add_zero]

/-- No channel is ever high. -/
theorem Silent.sampleAt_eq_zero (draw : DrawSource) (i : Nat) : sampleAt draw s i = 0 := by
  simp [sampleAt, toneShare, musicShare, silent.tonePhaseAfter_eq_zero, silent.musicPhaseAfter_eq_zero]

theorem Silent.tonePhaseEnd_eq_zero (draw : DrawSource) (n : Nat) (ch : Chan) : tonePhaseEnd draw n s ch = 0#32 := by
  simp [tonePhaseEnd, silent.tonePhaseAfter_eq_zero, silent.tonePhases, silent.toneSteps]

theorem Silent.musicPhaseEnd_eq_zero (n : Nat) (ch : Chan) : musicPhaseEnd n s ch = 0#32 := by
  simp [musicPhaseEnd, silent.musicPhaseAfter_eq_zero, silent.musicPhases]

theorem Silent.render_ttPhase (draw : DrawSource) (n : Nat) : (render draw n s).tt.ttPhase = .fill 0#32 :=
  Trio.ext_get fun ch => by rw [ttPhase_render, silent.tonePhaseEnd_eq_zero, Trio.get_fill]

theorem Silent.render_mtPhase (draw : DrawSource) (n : Nat) : (render draw n s).mt.mtPhase = .fill 0#32 :=
  Trio.ext_get fun ch => by rw [mtPhase_render, silent.musicPhaseEnd_eq_zero, Trio.get_fill]

theorem Silent.render_samples (draw : DrawSource) (n : Nat) :
    (render draw n s).samples = s.samples ++ List.replicate n 0#16 := by
  rw [samples_render, buffer_congr (silent.sampleAt_eq_zero draw), replicate_eq_buffer]

end

/-- The invariant makes the steps 0 where the rate is 0 (10_state R31 (a)). -/
theorem Inv.silent {s : State} (inv : Inv s) (rate : s.cfg.sampleRate = 0) (tone : s.tt.ttPhase = .fill 0#32)
    (music : s.mt.mtPhase = .fill 0#32) : Silent s where
  zeroRate := rate
  toneSteps ch := (inv.toneSteps ch).trans (freqStep_of_zero (.inl rate))
  musicSteps ch := (inv.musicSteps ch).trans (freqStep_of_zero (.inl rate))
  tonePhases ch := by rw [tone, Trio.get_fill]
  musicPhases ch := by rw [music, Trio.get_fill]

/-- Settles O13: the rendering is silent, and what the operation does after it moves neither phases nor stream. -/
theorem zeroSampleRateIsSilent : Obligations.ZeroSampleRateIsSilent := by
  intro i s inv rate tonePhases musicPhases hi
  have silent := inv.silent rate tonePhases musicPhases
  obtain ⟨t, h⟩ := everyOperationAnswersANextState i s
  obtain ⟨⟨tone, music, -⟩, -, samples⟩ := (exec_effect h hi).stream
  exact ⟨t, h, tone.trans (silent.render_ttPhase ..), music.trans (silent.render_mtPhase ..),
    samples.trans (silent.render_samples ..)⟩

end Sys2Proof.Machine
end

section
/-! Proofs for 41_noise_lfsr_modulator: the noise clock (O17), the average step (O18), and a rendering that takes no
draw (O53). -/

namespace Sys2Proof.Machine

/-! ### The noise clock (41 R90; decisions D7, D8) -/

theorem noiseFreq_of_masterClock (c : Config) {ctl : Byte} (count0 : Count) (h : noiseSource ctl = false) :
    noiseFreq c ctl count0 = (c.masterClock, 1) := by
  rw [noiseFreq, if_neg (ne_true_of_eq_false h)]

theorem noiseFreq_of_channel0 (c : Config) {ctl : Byte} {count0 : Count} (h : noiseSource ctl = true)
    (running : count0 ≠ 0#16) : noiseFreq c ctl count0 = (c.masterClock, c.noiseCh0Div * count0.toNat) := by
  rw [noiseFreq, if_pos h, if_neg running]

theorem noiseFreq_of_stopped (c : Config) {ctl : Byte} (h : noiseSource ctl = true) :
    noiseFreq c ctl 0#16 = (0, 1) := by
  rw [noiseFreq, if_pos h, if_pos rfl]

/-- Settles O17: the source bit is bit 0 of the control byte. -/
theorem noiseClockSelection : Obligations.NoiseClockSelection :=
  fun c _ count0 => ⟨noiseFreq_of_masterClock c count0, noiseFreq_of_channel0 c,
    fun source stopped => stopped ▸ noiseFreq_of_stopped c source⟩

/-! ### `AvgStep` (41 R92; decision D6) -/

theorem avgStep_of_zero {c : Config} {fn : Nat} {count : Count} (fd : Nat)
    (h : c.sampleRate = 0 ∨ count = 0#16 ∨ fn = 0) : avgStep c (fn, fd) count = 0#32 :=
  if_pos h

/-- A common factor does not change the nearest natural. -/
theorem rdiv_mul_left {k : Nat} (hk : 0 < k) (a b : Nat) : rdiv (k * a) (k * b) = rdiv a b := by
  rw [rdiv, rdiv, Nat.mul_left_comm 2 k a, Nat.mul_left_comm 2 k b, ← Nat.mul_add, Nat.mul_div_mul_left _ _ hk]

/-- The constants of 41 R92 have `2^17` in common and leave `2^24 / 2^17 = 128`. -/
theorem avgStep_of_nonzero {c : Config} (structural : c.Structural) {fn : Nat} {count : Count} (fd : Nat)
    (rate : c.sampleRate ≠ 0) (hc : count ≠ 0#16) (hfn : fn ≠ 0) :
    avgStep c (fn, fd) count = BitVec.ofNat 32 (rdiv (128 * fn) (count.toNat * c.sampleRate * fd)) := by
  obtain ⟨-, -, -, -, stepOne, prescale, scale, -⟩ := structural
  have numerator : c.stepOne * fn = 2 ^ 17 * (128 * fn) := by rw [stepOne]; ring
  have divisor : c.noisePrescale * count.toNat * c.sampleRate * c.noiseScale * fd =
      2 ^ 17 * (count.toNat * c.sampleRate * fd) := by rw [prescale, scale]; ring
  rw [avgStep, if_neg (by simp [rate, hc, hfn]), numerator, divisor, rdiv_mul_left (by decide)]

/-- Settles O18: the stated constants reduce to 128, and `rdiv` is the nearest natural. -/
theorem averageStepIsTheNearestQuotient : Obligations.AverageStepIsTheNearestQuotient := by
  intro c fn fd count structural
  refine ⟨avgStep_of_zero fd, fun rate nonzero hfn hfd =>
    ⟨_, avgStep_of_nonzero structural fd rate nonzero hfn, rdiv_nearest _ ?_⟩⟩
  have count_pos : 0 < count.toNat := Nat.pos_of_ne_zero fun h => nonzero (BitVec.eq_of_toNat_eq h)
  exact Nat.mul_pos (Nat.mul_pos count_pos (Nat.pos_of_ne_zero rate)) (Nat.pos_of_ne_zero hfd)

/-! ### A rendering without noise (41 R94; 45 R178) -/

/-- A pure channel's phases do not depend on the draws. -/
theorem tonePhaseAfter_of_pure {s : State} {ch : Chan} (hn : toneNoisy s ch = false) (draw draw' : DrawSource)
    (i : Nat) : tonePhaseAfter draw s ch i = tonePhaseAfter draw' s ch i := by
  induction i with
  | zero => rfl
  | succ i ih =>
    have increment (d : DrawSource) : toneIncrement d s ch i = s.tt.ttStep.get ch := if_neg (ne_true_of_eq_false hn)
    rw [tonePhaseAfter, tonePhaseAfter, ih, increment, increment]

section NoNoise

variable {s : State} {ch : Chan} (quiet : toneAudible s ch = true → toneNoisy s ch = false)
include quiet

theorem toneShare_of_noNoise (draw draw' : DrawSource) (i : Nat) :
    toneShare draw s ch i = toneShare draw' s ch i := by
  cases audible : toneAudible s ch
  case true => rw [toneShare, toneShare, tonePhaseAfter_of_pure (quiet audible) draw draw']
  case false => rw [toneShare_of_silent audible, toneShare_of_silent audible]

theorem tonePhaseEnd_of_noNoise (draw draw' : DrawSource) (n : Nat) :
    tonePhaseEnd draw n s ch = tonePhaseEnd draw' n s ch := by
  cases audible : toneAudible s ch
  case true =>
    rw [tonePhaseEnd_of_audible audible, tonePhaseEnd_of_audible audible,
      tonePhaseAfter_of_pure (quiet audible) draw draw']
  case false => rw [tonePhaseEnd, tonePhaseEnd, audible, if_neg Bool.false_ne_true, if_neg Bool.false_ne_true]

theorem drawsEnd_of_noNoise (n : Nat) : drawsEnd n s ch = s.draws.get ch :=
  if_neg fun h => by
    obtain ⟨audible, noisy⟩ := Bool.and_eq_true_iff.mp h
    exact ne_true_of_eq_false (quiet audible) noisy

end NoNoise

/-- Settles O53: each part of the closed form is free of the draws, as only a sounding noisy channel takes them. -/
theorem renderWithoutNoiseIgnoresDraws : Obligations.RenderWithoutNoiseIgnoresDraws := by
  intro s n quiet draw draw'
  have phases : tonePhaseEnd draw n s = tonePhaseEnd draw' n s :=
    funext fun ch => tonePhaseEnd_of_noNoise (quiet ch) draw draw' n
  have samples : sampleAt draw s = sampleAt draw' s := funext fun i => by
    have share (ch : Chan) := toneShare_of_noNoise (quiet ch) draw draw' i
    rw [sampleAt, sampleAt, share, share, share]
  exact ⟨by rw [render_eq, render_eq, phases, samples],
    Trio.ext_get fun ch => (draws_render ..).trans (drawsEnd_of_noNoise (quiet ch) n)⟩

end Sys2Proof.Machine
end

section
/-! Proofs for 42_interval_timer_with_prescaler: the run of ticks leg by leg (O23 to O25), the load ports (O20, O21,
O26), the first expiry (O22) and the flag read (O28). -/

namespace Sys2Proof.Machine

/-! ### The leg under way (42 R104) -/

/-- The tick count at which the leg under way ends (42 R104). -/
def legEnd (c : Config) (x : IntervalTimer) : Nat :=
  match x.itState with
  | .idle => 0
  | .countingUp => upLeg c x
  | .countingDown => downLeg c x

/-- The expiry at the end of the leg under way (42 R105, R106). -/
def legExpiry (x : IntervalTimer) : IntervalTimer :=
  if x.itState = .countingUp then itExp1 x else itExp2 x

/-- `t` base ticks have elapsed in the leg under way. -/
def countTicks (t : Nat) (x : IntervalTimer) : IntervalTimer :=
  { x with itElapsed := x.itElapsed + BitVec.ofNat 18 t }

@[simp] theorem countTicks_zero (x : IntervalTimer) : countTicks 0 x = x := by simp [countTicks]

theorem countTicks_countTick (t : Nat) (x : IntervalTimer) : countTicks t (countTick x) = countTicks (t + 1) x := by
  have elapsed : x.itElapsed + 1#18 + BitVec.ofNat 18 t = x.itElapsed + BitVec.ofNat 18 (t + 1) := by
    rw [BitVec.ofNat_add, BitVec.add_assoc, BitVec.add_comm 1#18]
  rw [countTicks, countTick_itElapsed, elapsed]
  rfl

@[simp] theorem legEnd_countTick (c : Config) (x : IntervalTimer) : legEnd c (countTick x) = legEnd c x := rfl

/-- An expiry starts the count over, so that the last tick is not seen in it. -/
@[simp] theorem legExpiry_countTick (x : IntervalTimer) : legExpiry (countTick x) = legExpiry x := rfl

section Leg

variable {c : Config} {x : IntervalTimer}

theorem legEnd_countingUp (up : x.itState = .countingUp) : legEnd c x = upLeg c x := by rw [legEnd, up]

theorem legEnd_countingDown (down : x.itState = .countingDown) : legEnd c x = downLeg c x := by rw [legEnd, down]

theorem legExpiry_countingUp (up : x.itState = .countingUp) : legExpiry x = itExp1 x := if_pos up

theorem legExpiry_countingDown (down : x.itState = .countingDown) : legExpiry x = itExp2 x := by
  rw [legExpiry, down, if_neg nofun]

theorem legEnd_lt (hc : c.Structural) (x : IntervalTimer) : legEnd c x < 2 ^ 18 := by
  obtain ⟨up, -, down⟩ := leg_bounds hc x
  unfold legEnd
  split
  · decide
  · exact up
  · exact down

/-- A tick inside the leg counts, and the leg's last tick performs its expiry (42 R104). -/
theorem itTick_inLeg (hc : c.Structural) (below : x.itElapsed.toNat < legEnd c x) :
    itTick c x = if x.itElapsed.toNat + 1 < legEnd c x then countTick x else legExpiry x := by
  have counted : (x.itElapsed + 1#18).toNat = x.itElapsed.toNat + 1 := countTick_toNat below (legEnd_lt hc x)
  obtain ⟨idle, -⟩ | ⟨up, last, e⟩ | ⟨up, notLast, e⟩ | ⟨down, last, e⟩ | ⟨down, notLast, e⟩ := itTick_cases c x
  · rw [legEnd, idle] at below
    exact absurd below (Nat.not_lt_zero _)
  · rw [← legEnd_countingUp up] at last
    rw [e, if_neg (by omega), ← legExpiry_countTick, legExpiry_countingUp (x := countTick x) up]
  · rw [← legEnd_countingUp up] at notLast
    rw [e, if_pos (by omega)]
  · rw [← legEnd_countingDown down] at last
    rw [e, if_neg (by omega), ← legExpiry_countTick, legExpiry_countingDown (x := countTick x) down]
  · rw [← legEnd_countingDown down] at notLast
    rw [e, if_pos (by omega)]

/-- A run of ticks from inside a leg: it stays in the leg, or goes through the expiry and on (42 R110). -/
theorem itTicks_inLeg (hc : c.Structural) (below : x.itElapsed.toNat < legEnd c x) (t : Nat) :
    itTicks c t x =
      if t < legEnd c x - x.itElapsed.toNat then countTicks t x
      else itTicks c (t - (legEnd c x - x.itElapsed.toNat)) (legExpiry x) := by
  induction t generalizing x with
  | zero => rw [if_pos (Nat.sub_pos_of_lt below), countTicks_zero, itTicks_zero]
  | succ t ih =>
    rw [itTicks_succ, itTick_inLeg hc below]
    split
    case isFalse last =>
      have left : legEnd c x - x.itElapsed.toNat = 1 := by omega
      rw [left, if_neg (by omega), Nat.add_sub_cancel]
    case isTrue before =>
      have counted := countTick_toNat below (legEnd_lt hc x)
      have left : legEnd c x - x.itElapsed.toNat = legEnd c x - (x.itElapsed.toNat + 1) + 1 := by omega
      rw [ih (counted ▸ before), legEnd_countTick, legExpiry_countTick,
        countTicks_countTick, counted, left, Nat.add_sub_add_right]
      simp only [Nat.add_lt_add_iff_right]

/-- A leg that has just started lasts until its end. -/
theorem itTicks_newLeg (hc : c.Structural) (start : x.itElapsed = 0#18) (nonempty : 0 < legEnd c x) (t : Nat) :
    itTicks c t x =
      if t < legEnd c x then { x with itElapsed := BitVec.ofNat 18 t }
      else itTicks c (t - legEnd c x) (legExpiry x) := by
  have elapsed : x.itElapsed.toNat = 0 := by rw [start]; rfl
  rw [itTicks_inLeg hc (by omega), elapsed, Nat.sub_zero, countTicks, start, BitVec.zero_add]

/-- The ticks of a whole leg bring its expiry. -/
theorem itTicks_wholeLeg (hc : c.Structural) (start : x.itElapsed = 0#18) (nonempty : 0 < legEnd c x) :
    itTicks c (legEnd c x) x = legExpiry x := by
  rw [itTicks_newLeg hc start nonempty, if_neg (Nat.lt_irrefl _), Nat.sub_self, itTicks_zero]

end Leg

theorem itTicks_add (c : Config) (a b : Nat) (x : IntervalTimer) :
    itTicks c (a + b) x = itTicks c b (itTicks c a x) := by
  induction a generalizing x with
  | zero => rw [Nat.zero_add, itTicks_zero]
  | succ a ih => rw [Nat.succ_add, itTicks_succ, itTicks_succ, ih]

/-! ### The closed form of a run of ticks (42 R110) -/

/-- Settles O23: the expiry as it is defined leaves a stopped timer. -/
theorem secondExpiryStops : Obligations.SecondExpiryStops :=
  fun c _ => ⟨rfl, itTicks_idle c rfl⟩

/-- In the second leg, the expiry leaves a stopped timer. -/
theorem itTicks_countingDown {c : Config} {x : IntervalTimer} (hc : c.Structural) (down : x.itState = .countingDown)
    (below : x.itElapsed.toNat < downLeg c x) (t : Nat) : itTicks c t x = advDown c t x := by
  have legLength := legEnd_countingDown (c := c) down
  rw [itTicks_inLeg hc (legLength ▸ below), legLength, legExpiry_countingDown down, itTicks_idle c rfl]
  rfl

/-- The two legs one after the other are the closed form. -/
theorem itTicks_eq_advClosed {c : Config} {x : IntervalTimer} (hc : c.Structural) (inv : TimerInv c x) (t : Nat) :
    itTicks c t x = advClosed c t x := by
  unfold advClosed
  split
  case h_1 idle => exact itTicks_idle c idle t
  case h_2 down => exact itTicks_countingDown hc down (inv.belowDownLeg down) t
  case h_3 up =>
    have legLength := legEnd_countingUp (c := c) up
    rw [itTicks_inLeg hc (legLength ▸ inv.belowUpLeg up), legLength, legExpiry_countingUp up,
      itTicks_countingDown hc rfl ((TimerInv.itExp1 hc x).belowDownLeg rfl)]
    rfl

/-- Settles O24: `IT.ADV` is a run of ticks. -/
theorem advanceEqualsItsClosedForm : Obligations.AdvanceEqualsItsClosedForm := by
  intro s t inv
  rw [← itTicks_eq_advClosed inv.structural inv.timer]
  rfl

/-! ### `IT.ADV` in parts (42 R110) -/

/-- While the level never falls, the net change of two parts makes the calls of both (60 R203). -/
theorem callsAfter_trans (calls : List Bool) {a b c : Bool} (rises : a = true → b = true)
    (stays : b = true → c = true) : callsAfter (callsAfter calls a b) b c = callsAfter calls a c := by
  cases b
  case false => rw [Bool.eq_false_of_not_eq_true fun h => Bool.false_ne_true (rises h), callsAfter_same]
  case true => rw [stays rfl, callsAfter_same]

/-- Ticks never drop the line, so that two runs make the calls of the joined one. -/
theorem setTimer_itTicks_itTicks (s : State) (a b : Nat) :
    setTimer (itTicks s.cfg b (itTicks s.cfg a s.it)) (setTimer (itTicks s.cfg a s.it) s) =
      setTimer (itTicks s.cfg (a + b) s.it) s := by
  have calls := callsAfter_trans s.irqCalls (itTicks_keep_flag_line s.cfg a s.it).2
    (itTicks_keep_flag_line s.cfg b (itTicks s.cfg a s.it)).2
  rw [itTicks_add, setTimer, setTimer_it, setTimer_irqCalls, calls]
  rfl

/-- Settles O25: the runs of ticks join, and so do their calls. -/
theorem advanceComposes : Obligations.AdvanceComposes := by
  intro s a b
  refine ⟨congrArg Host.Outcome.next (setTimer_of_sameLine rfl), fun fits => ?_⟩
  rw [runOps_pair rfl rfl, exec, execItAdv, BitVec.toNat_add_of_lt fits]
  exact congrArg Host.Outcome.next (setTimer_itTicks_itTicks s a.toNat b.toNat)

/-! ### The load ports (42 R101 to R103) -/

/-- Each load port is the one load operation at an offset with the port's divider and enable (42 R101's table). -/
theorem exec_load {p : (Byte → BitVec 32 → Instr) × BitVec 2 × Bool} (hp : p ∈ loadPorts) :
    ∃ off, loadDivsel off = p.2.1 ∧ loadIrqEnable off = p.2.2 ∧
      ∀ d k s, exec (p.1 d k) s = busWrite k (loadPort off d) s := by
  fin_cases hp <;> exact ⟨_, rfl, rfl, fun _ _ _ => rfl⟩

/-- The flag is cleared by a port without the enable, where the configuration says so (42 R102; decision D19). -/
theorem flagAfterLoad_eq (c : Config) (enable flag : Bool) :
    flagAfterLoad c enable flag =
      if enable = false ∧ c.itLoadDisableClearsFlag = true then false else flag := by
  cases enable <;> simp [flagAfterLoad]

/-- A load of a non-zero count leaves the line low (42 R102). -/
theorem loadPort_of_nonzero (off : BitVec 5) {d : Byte} (hd : d ≠ 0#8) (s : State) :
    loadPort off d s = setTimer (startLeg s.cfg off d s.it) s := by
  rw [loadPort, itLoadPort, if_neg hd]

/-- The expiry inside a load of zero raises the dropped line to the enable (42 R103). -/
theorem itLoadPort_zero (c : Config) (off : BitVec 5) (x : IntervalTimer) :
    itLoadPort c off 0#8 x =
      { x with
        itDivsel := loadDivsel off
        irqEnabled := loadIrqEnable off
        itLoad := 0#8
        itElapsed := 0#18
        itState := .countingDown
        irqLine := loadIrqEnable off
        irqFlag := true } := by
  simp [itLoadPort, itExp1, latchExpiry, startLeg, loadFlags]

/-- Settles O20: a load of a non-zero count only starts the leg, with the line low. -/
theorem loadStartsTheFirstLeg : Obligations.LoadStartsTheFirstLeg := by
  intro p hp s d k hd
  obtain ⟨off, divsel, enable, load⟩ := exec_load hp
  refine ⟨render Config.draw k.toNat s, rfl, ?_⟩
  rw [load, ← divsel, ← enable, ← flagAfterLoad_eq, ← callsAfter_low, busWrite, loadPort_of_nonzero off hd]
  rfl

/-- Settles O21: the line goes at once from its level before the load to the enable. -/
theorem loadOfZeroExpiresAtOnce : Obligations.LoadOfZeroExpiresAtOnce := by
  intro p hp s k
  obtain ⟨off, divsel, enable, load⟩ := exec_load hp
  refine ⟨render Config.draw k.toNat s, rfl, ?_⟩
  rw [load, ← divsel, ← enable, busWrite, loadPort, itLoadPort_zero]
  rfl

/-- Settles O22: the line goes to its disjunction with the enable. -/
theorem firstExpiryLatchesTheFlag : Obligations.FirstExpiryLatchesTheFlag := by
  intro x
  have line : (x.irqEnabled || x.irqLine) = if x.irqEnabled = true then true else x.irqLine := by
    cases x.irqEnabled <;> rfl
  rw [← line]
  rfl

/-! ### The flag read (42 R109) -/

/-- Settles O28: the second read finds flag and line clear. -/
theorem flagReadReturnsAndClears : Obligations.FlagReadReturnsAndClears := by
  intro s al al'
  refine ⟨_, rfl, ?_, fun bit => ?_, ?_⟩
  · rw [← callsAfter_low]
    rfl
  · change some (flagByte s.cfg s.it.irqFlag) = _
    rw [flagByte, bit]
    cases s.it.irqFlag <;> rfl
  · exact congrArg Host.Outcome.next (setTimer_of_sameLine rfl)

/-! ### From the load to the end (42 R113, R114) -/

/-- The first leg after a load is as many divided ticks as were loaded (42 R104). -/
theorem legEnd_startLeg (c : Config) (off : BitVec 5) (d : Byte) (x : IntervalTimer) :
    legEnd c (startLeg c off d x) = divider c (loadDivsel off) * d.toNat := rfl

section Loaded

variable {c : Config} (hc : c.Structural)
include hc

theorem itTicks_startLeg_before (off : BitVec 5) (d : Byte) (x : IntervalTimer) {t : Nat}
    (before : t < divider c (loadDivsel off) * d.toNat) :
    itTicks c t (startLeg c off d x) = { startLeg c off d x with itElapsed := BitVec.ofNat 18 t } := by
  rw [← legEnd_startLeg c off d x] at before
  rw [itTicks_newLeg hc rfl (Nat.zero_lt_of_lt before), if_pos before]

theorem itTicks_startLeg_atEnd (off : BitVec 5) {d : Byte} (hd : d ≠ 0#8) (x : IntervalTimer) :
    itTicks c (divider c (loadDivsel off) * d.toNat) (startLeg c off d x) = itExp1 (startLeg c off d x) := by
  have loaded : 0 < d.toNat := Nat.pos_of_ne_zero fun h => hd (BitVec.eq_of_toNat_eq h)
  have nonempty : 0 < legEnd c (startLeg c off d x) := Nat.mul_pos (divider_bounds hc (loadDivsel off)).1 loaded
  exact itTicks_wholeLeg hc rfl nonempty

/-- The second leg is `IT_DOWN_MAX` divided ticks, whatever is read in it (42 R104, R114). -/
theorem itTicks_secondLeg {x : IntervalTimer} (down : x.itState = .countingDown) (start : x.itElapsed = 0#18) :
    itTicks c (divider c x.itDivsel * 255) x = itExp2 x := by
  have downMax : c.itDownMax = 255 := hc.2.1
  have legLength : legEnd c x = divider c x.itDivsel * 255 := by rw [legEnd_countingDown down, downLeg, downMax]
  have nonempty : 0 < legEnd c x := legLength ▸ Nat.mul_pos (divider_bounds hc x.itDivsel).1 (by decide)
  rw [← legLength, itTicks_wholeLeg hc start nonempty, legExpiry_countingDown down]

/-- An acknowledged expiry is followed by the whole second leg (42 R114). -/
theorem itTicks_acknowledged (off : BitVec 5) (d : Byte) (x : IntervalTimer) :
    itTicks c (divider c (loadDivsel off) * 255) (acknowledge (itExp1 (startLeg c off d x))) =
      itExp2 (acknowledge (itExp1 (startLeg c off d x))) :=
  itTicks_secondLeg hc (x := acknowledge (itExp1 (startLeg c off d x))) rfl rfl

end Loaded

/-- Settles O26: the two legs at their whole length, the second one acknowledged at its start. -/
theorem loadExpiresExactlyOnTime : Obligations.LoadExpiresExactlyOnTime := by
  intro p hp s d t hc hd _
  obtain ⟨off, divsel, enable, load⟩ := exec_load hp
  rw [← divsel, ← enable]
  have loaded : exec (p.1 d 0#32) s = .next (setTimer (startLeg s.cfg off d s.it) s) := by
    rw [load, busWrite_noFlush, loadPort_of_nonzero off hd]
  refine ⟨_, _, loaded, rfl, fun before => ?_, fun atEnd => ?_⟩
  · rw [setTimer_it, setTimer_it, setTimer_cfg, itTicks_startLeg_before hc off d s.it before]
    exact ⟨rfl, rfl⟩
  · have fits : (BitVec.ofNat 32 (divider s.cfg (loadDivsel off) * 255)).toNat =
        divider s.cfg (loadDivsel off) * 255 := by
      obtain ⟨-, most⟩ := divider_bounds hc (loadDivsel off)
      rw [BitVec.toNat_ofNat]
      omega
    rw [setTimer_it, setTimer_it, setTimer_cfg, atEnd, itTicks_startLeg_atEnd hc off hd]
    refine ⟨rfl, Bool.or_false _, rfl, rfl, _, _, rfl, rfl, rfl, rfl, ?_⟩
    simp only [setTimer_it, setTimer_cfg, busRead_cfg, fits, itTicks_acknowledged hc]
    exact ⟨rfl, rfl, rfl⟩

end Sys2Proof.Machine
end

section
/-! Proofs for 43_tone_counter_trio: the control writes (O32), the shared latch (O33), and a control write beside a
count commit (O36). -/

namespace Sys2Proof.Machine

/-! ### The control writes (43 R131, R132) -/

theorem controlTarget_of_selected {cr1 : Byte} (h : cr1.getLsbD 0 = true) : controlTarget cr1 = .ch0 := if_pos h

theorem controlTarget_of_unselected {cr1 : Byte} (h : cr1.getLsbD 0 = false) : controlTarget cr1 = .ch2 :=
  if_neg (ne_true_of_eq_false h)

/-- The flush keeps the selector, so the shared port goes where it pointed before the write. -/
theorem exec_ttWcr (d : Byte) (k : BitVec 32) (s : State) :
    exec (.ttWcr d k) s =
      .next (setToneControl (controlTarget s.tt.ttCr.ch1) d (render Config.draw k.toNat s)) := by
  rw [exec, execTtWcr, busWrite, render_ttCr]

/-- Settles O32: each value of the selector names the register of the shared port. -/
theorem toneControlWritesTheirRegister : Obligations.ToneControlWritesTheirRegister := by
  intro s d k
  refine ⟨render Config.draw k.toNat s, rfl, rfl, fun selected => ?_, fun unselected => ?_⟩
  · rw [exec_ttWcr, controlTarget_of_selected selected]
    rfl
  · rw [exec_ttWcr, controlTarget_of_unselected unselected]
    rfl

/-! ### The shared latch (43 R133) -/

/-- Settles O33: the three ports have the one meaning `latchMsb`. -/
theorem msbWritesTheSharedLatch : Obligations.MsbWritesTheSharedLatch :=
  fun s _ k => ⟨render Config.draw k.toNat s, rfl, rfl, rfl, rfl⟩

/-! ### A control write beside a count commit (43 R135) -/

theorem exec_toneCommit_noFlush {p : (Byte → BitVec 32 → Instr) × Chan} (hp : p ∈ toneCommits) (d : Byte)
    (s : State) : exec (p.1 d 0#32) s = .next (commitTone p.2 d s) := by
  rw [exec_toneCommit hp, busWrite_noFlush]

/-- A control write touches `ttCr` alone, and a commit neither reads nor writes it, whatever their channels. -/
theorem commitTone_setToneControl (ch ch' : Chan) (d e : Byte) (s : State) :
    commitTone ch d (setToneControl ch' e s) = setToneControl ch' e (commitTone ch d s) := rfl

/-- Operations that act by mutations which commute may run in either order. -/
theorem runOps_pair_comm {i j : Instr} {f g : State → State} (hi : ∀ s, exec i s = .next (f s))
    (hj : ∀ s, exec j s = .next (g s)) {s : State} (comm : g (f s) = f (g s)) :
    runOps [i, j] s = runOps [j, i] s := by
  rw [runOps_pair (hi s) (hj (f s)), runOps_pair (hj s) (hi (g s)), comm]

/-- Settles O36: the commit keeps the selector too, so the shared port has the same target before and after it. -/
theorem toneControlAndCountWritesCommute : Obligations.ToneControlAndCountWritesCommute := by
  intro p hp s d e
  have commit := exec_toneCommit_noFlush hp d
  exact ⟨runOps_pair_comm (exec_ttWmc_noFlush e) commit (commitTone_setToneControl p.2 .ch1 d e s),
    runOps_pair_comm (exec_ttWcr_noFlush e) commit
      (commitTone_setToneControl p.2 (controlTarget s.tt.ttCr.ch1) d e s)⟩

end Sys2Proof.Machine
end

section
/-! Proofs for 44_music_timer_trio: the count ports (O38, O39) and the gate port (O40). -/

namespace Sys2Proof.Machine

/-! ### A count write (44 R151, R154) -/

theorem musicCount_of_toggleClear {ch : Chan} {s : State} (toggle : s.mt.mtToggle.get ch = false) (d : Byte) :
    musicCount ch d s = musicLow ch d s :=
  if_neg (ne_true_of_eq_false toggle)

theorem musicCount_of_toggleSet {ch : Chan} {s : State} (toggle : s.mt.mtToggle.get ch = true) (d : Byte) :
    musicCount ch d s = musicHigh ch d s := if_pos toggle

/-- The three count ports are one operation on their channels. -/
theorem exec_musicCountPort {p : (Byte → BitVec 32 → Instr) × Chan} (hp : p ∈ musicCounts) (d : Byte)
    (k : BitVec 32) (s : State) :
    exec (p.1 d k) s = .next (musicCount p.2 d (render Config.draw k.toNat s)) := by
  fin_cases hp <;> rfl

theorem exec_musicCountPort_noFlush {p : (Byte → BitVec 32 → Instr) × Chan} (hp : p ∈ musicCounts) (d : Byte)
    (s : State) : exec (p.1 d 0#32) s = .next (musicCount p.2 d s) := by
  rw [exec_musicCountPort hp, BitVec.toNat_ofNat, Nat.zero_mod, render_zero]

/-- Settles O38: the flush keeps the toggle, the low byte and the parameters, so the half is the one the state
before the write selects. -/
theorem musicCountWritesAlternate : Obligations.MusicCountWritesAlternate := by
  intro p hp s d k
  refine ⟨render Config.draw k.toNat s, rfl, fun toggle => ?_, fun toggle => ?_⟩
  · rw [exec_musicCountPort hp, musicCount_of_toggleClear (by rwa [render_mtToggle])]
    rfl
  · refine ⟨countOf d (s.mt.mtLow.get p.2), toNat_countOf .., ?_⟩
    rw [exec_musicCountPort hp, musicCount_of_toggleSet (by rwa [render_mtToggle])]
    simp [musicHigh]

/-! ### Pairs of count writes (44 R152) -/

theorem highByte_countOf (hi lo : Byte) : highByte (countOf hi lo) = hi := by
  apply BitVec.eq_of_toNat_eq
  rw [highByte, BitVec.extractLsb'_toNat, Nat.shiftRight_eq_div_pow, toNat_countOf]
  omega

theorem lowByte_countOf (hi lo : Byte) : lowByte (countOf hi lo) = lo := by
  apply BitVec.eq_of_toNat_eq
  rw [lowByte, BitVec.extractLsb'_toNat, Nat.shiftRight_eq_div_pow, toNat_countOf]
  omega

/-- The count that a pair of writes commits, the low byte written first. -/
def pairCount (q : Byte × Byte) : Count := countOf q.2 q.1

/-- One pair from toggle 0 commits its count and leaves the toggle at 0. -/
theorem runOps_musicPair {p : (Byte → BitVec 32 → Instr) × Chan} (hp : p ∈ musicCounts) {s : State}
    (toggle : s.mt.mtToggle.get p.2 = false) (q : Byte × Byte) :
    ∃ t, (∀ is, runOps (p.1 q.1 0#32 :: p.1 q.2 0#32 :: is) s = runOps is t) ∧
      t.mt.mtToggle.get p.2 = false ∧ t.mt.mtCount.get p.2 = pairCount q := by
  have pair := musicCount_lowThenHigh toggle (pairCount q)
  rw [pairCount, highByte_countOf, lowByte_countOf] at pair
  refine ⟨musicCount p.2 q.2 (musicCount p.2 q.1 s), fun is => ?_, ?_, ?_⟩
  · rw [runOps_cons (exec_musicCountPort_noFlush hp ..), runOps_cons (exec_musicCountPort_noFlush hp ..)]
  · rw [pair, ← toggle]
  · rw [pair, Trio.get_set_self, pairCount]

/-- Any number of pairs from toggle 0: each leaves the toggle at 0 for the next, and the last one's count stays. -/
theorem runOps_musicPairs {p : (Byte → BitVec 32 → Instr) × Chan} (hp : p ∈ musicCounts)
    (pairs : List (Byte × Byte)) : ∀ {s : State}, s.mt.mtToggle.get p.2 = false →
      ∃ t, runOps (pairs.flatMap fun q => [p.1 q.1 0#32, p.1 q.2 0#32]) s = .next t ∧
        t.mt.mtToggle.get p.2 = false ∧
        t.mt.mtCount.get p.2 = (pairs.getLast?.map pairCount).getD (s.mt.mtCount.get p.2) := by
  induction pairs with
  | nil => exact fun toggle => ⟨_, rfl, toggle, rfl⟩
  | cons q qs ih =>
    intro s toggle
    obtain ⟨u, first, toggleU, countU⟩ := runOps_musicPair hp toggle q
    obtain ⟨t, rest, toggleT, countT⟩ := ih toggleU
    refine ⟨t, (first _).trans rest, toggleT, ?_⟩
    rw [countT, countU, List.getLast?_cons, Option.map_some, Option.getD_some, Option.getD_map]

/-- Settles O39: the run of the pairs, and a low half after it. -/
theorem musicCountIsTheLastPair : Obligations.MusicCountIsTheLastPair := by
  intro p hp s pairs toggle
  obtain ⟨t, run, toggleT, countT⟩ := runOps_musicPairs hp pairs toggle
  refine ⟨t, run, toggleT, ?_, fun d => ⟨musicLow p.2 d t, ?_, Trio.get_set_self .., rfl, Trio.get_set_self ..⟩⟩
  · rw [countT]
    cases pairs.getLast? with
    | none => rfl
    | some q => exact toNat_countOf q.2 q.1
  · rw [exec_musicCountPort_noFlush hp, musicCount_of_toggleClear toggleT]

/-! ### The gate port (44 R153) -/

/-- The channel with the index in bits 7:6 (44 R153). -/
theorem gateChannel_of_index {d : Byte} {ch : Chan} (h : d.toNat / 64 = ch.index) : gateChannel d = some ch := by
  have index : (d.extractLsb' 6 2).toNat = ch.index := by
    rw [BitVec.extractLsb'_toNat, Nat.shiftRight_eq_div_pow]
    omega
  rw [gateChannel, index]
  cases ch <;> rfl

theorem gateChannel_of_index3 {d : Byte} (h : d.toNat / 64 = 3) : gateChannel d = none := by
  have index : (d.extractLsb' 6 2).toNat = 3 := by
    rw [BitVec.extractLsb'_toNat, Nat.shiftRight_eq_div_pow]
    omega
  rw [gateChannel, index]
  rfl

/-- A gate byte that names a channel sets its enable, after the flush, by the field. -/
theorem exec_mtWgate_of_channel {d : Byte} {ch : Chan} (h : gateChannel d = some ch) (k : BitVec 32) (s : State) :
    exec (.mtWgate d k) s =
      (let u := render Config.draw k.toNat s
       .next { u with
         mt := { u.mt with mtEnabled := u.mt.mtEnabled.set ch (decide (gateField s.cfg d ≠ 0#3)) } }) := by
  rw [exec, execMtWgate, busWrite, musicGate, h]
  simp [bne, beq_eq_decide]

/-- A gate byte that names no channel only flushes. -/
theorem exec_mtWgate_of_noChannel {d : Byte} (h : gateChannel d = none) (k : BitVec 32) (s : State) :
    exec (.mtWgate d k) s = .next (render Config.draw k.toNat s) := by
  rw [exec, execMtWgate, busWrite, musicGate, h]

/-- Settles O40, by the index in bits 7:6. -/
theorem gateWritesOneEnable : Obligations.GateWritesOneEnable := by
  intro s d k
  have named (ch : Chan) (index : d.toNat / 64 = ch.index) :=
    exec_mtWgate_of_channel (gateChannel_of_index index) k s
  refine ⟨render Config.draw k.toNat s, gateField s.cfg d, rfl, rfl, fun lsb => ?_, named .ch0, named .ch1,
    named .ch2, fun index => exec_mtWgate_of_noChannel (gateChannel_of_index3 index) k s⟩
  rw [gateField, lsb, BitVec.extractLsb'_toNat, Nat.shiftRight_eq_div_pow]

end Sys2Proof.Machine
end

section
/-! Proofs for 45_sample_mixer_engine: one channel sample by sample (O45, O47), and the channels and renderings that do
nothing (O44, O49). -/

namespace Sys2Proof.Machine

/-! ### A channel sample by sample (45 R168, R171) -/

/-- The first sample of a channel with a constant step, then the rest of the buffer from the new phase. -/
theorem walk_constant_cons (hb : Nat) (v : Sample) (st : Phase) (b : Sample) (bs : List Sample) (p : Phase) :
    walk hb v (fun _ => st) 0 (b :: bs) p =
      (let r := walk hb v (fun _ => st) 0 bs (p + st)
       (r.1, (if (p + st).getLsbD hb then b + v else b) :: r.2)) := by
  rw [walk_cons, walk_constant_index hb v st bs (0 + 1) 0]

theorem walkPure_nil (ch : Chan) (s : State) : walkPure ch (s, []) = (s, []) := by
  simp [walkPure]

/-- One sample of a pure channel, then the rest of the buffer from the state that the sample leaves. -/
theorem walkPure_cons (ch : Chan) (s : State) (b : Sample) (bs : List Sample) {p : Phase}
    (hp : p = s.tt.ttPhase.get ch + s.tt.ttStep.get ch) :
    walkPure ch (s, b :: bs) =
      (let r := walkPure ch (setTonePhase ch p s, bs)
       (r.1, (if p.getLsbD s.cfg.toneBit then b + toneVolume s ch else b) :: r.2)) := by
  subst hp
  simp [walkPure, walk_constant_cons, setTonePhase, toneVolume]

/-- Settles O45: a sounding pure channel is walked by `walkPure`, whose two equations are the statement. -/
theorem pureToneSampleBySample : Obligations.PureToneSampleBySample := by
  intro draw nf s ch b bs bit audible pure
  refine ⟨_, _, rfl, rfl, ?_, ?_⟩
  · rw [renderTone_pure draw nf [] audible pure, walkPure_nil]
  · rw [renderTone_pure draw nf (b :: bs) audible pure, walkPure_cons ch s b bs rfl, bit,
      renderTone_pure draw nf bs]
    exacts [audible, pure]

section EnabledMusic

variable {s : State} {ch : Chan} (enabled : s.mt.mtEnabled.get ch = true)
include enabled

theorem renderMusic_nil : renderMusic ch (s, []) = (s, []) := by
  simp [renderMusic, enabled]

/-- One sample of an enabled music channel, then the rest of the buffer from the state that the sample leaves. -/
theorem renderMusic_cons (b : Sample) (bs : List Sample) {p : Phase}
    (hp : p = s.mt.mtPhase.get ch + s.mt.mtStep.get ch) :
    renderMusic ch (s, b :: bs) =
      (let r := renderMusic ch (setMusicPhase ch p s, bs)
       (r.1, (if p.getLsbD s.cfg.musicBit then b + musicVolume s else b) :: r.2)) := by
  subst hp
  simp [renderMusic, enabled, walk_constant_cons, setMusicPhase, musicVolume]

end EnabledMusic

/-- Settles O47, by the two equations of an enabled channel. -/
theorem musicSampleBySample : Obligations.MusicSampleBySample := fun s ch b bs bit enabled =>
  ⟨_, _, rfl, rfl, renderMusic_nil enabled, by rw [renderMusic_cons enabled b bs rfl, bit, musicVolume]⟩

/-! ### Nothing to walk (45 R172, R174) -/

theorem renderTone_of_disabled (draw : DrawSource) (nf : Nat × Nat) {s : State} {ch : Chan} (bs : List Sample)
    (disabled : toneEnabled s ch = false) : renderTone draw nf ch (s, bs) = (s, bs) :=
  if_neg (ne_true_of_eq_false disabled)

theorem renderMusic_of_disabled {s : State} {ch : Chan} (bs : List Sample)
    (disabled : s.mt.mtEnabled.get ch = false) : renderMusic ch (s, bs) = (s, bs) :=
  if_neg (ne_true_of_eq_false disabled)

/-- With every channel disabled the zeroed buffer and the state pass through all of them. -/
theorem mix_of_allDisabled (draw : DrawSource) (n : Nat) {s : State} (h : allDisabled s) :
    mix draw n s = (s, List.replicate n 0#16) := by
  have tones : (channelsBelow s.cfg.nTone).foldl
      (fun x ch => renderTone draw (noiseFreq s.cfg s.sfx.sfxControl s.tt.ttCount.ch0) ch x)
      (s, List.replicate n 0#16) = (s, List.replicate n 0#16) :=
    List.foldl_fixed' (fun ch => renderTone_of_disabled draw _ _ (h ch).1) _
  rw [mix, tones]
  exact List.foldl_fixed' (fun ch => renderMusic_of_disabled _ (h ch).2) _

/-- Settles O49: a disabled channel is passed over, and so are all six. -/
theorem disabledChannelsAreNotWalked : Obligations.DisabledChannelsAreNotWalked := by
  refine ⟨fun draw nf _ x => renderTone_of_disabled draw nf x.2, fun _ x => renderMusic_of_disabled x.2,
    fun s n disabled => ?_⟩
  rw [exec, execRender, render, mix_of_allDisabled _ _ disabled, emitAll, List.length_replicate]

/-- Settles O44, by the rendering of no samples. -/
theorem renderZeroIsANoOp : Obligations.RenderZeroIsANoOp := fun s => congrArg _ (render_zero Config.draw s)

end Sys2Proof.Machine
end

section
/-! Proofs for 45_sample_mixer_engine: renderings side by side. A rendering in two parts (O52), the muted channel 0
(O48), and a music channel switched off within a rendering (O55). -/

namespace Sys2Proof.Machine

/-! ### Parts of a buffer -/

/-- A buffer of `a + b` samples is the first `a` of them and then the other `b`. -/
theorem buffer_add (f : Nat → Nat) (a b : Nat) : buffer f (a + b) = buffer f a ++ buffer (fun i => f (a + i)) b := by
  rw [buffer, List.range_add, List.map_append, List.map_map]
  rfl

theorem buffer_congr_of_lt {f g : Nat → Nat} {n : Nat} (h : ∀ i < n, f i = g i) : buffer f n = buffer g n :=
  List.map_congr_left fun i hi => congrArg _ (h i (List.mem_range.mp hi))

theorem sample_eq_of_buffer_eq {f g : Nat → Nat} {n i : Nat} (h : buffer f n = buffer g n) (hi : i < n) :
    BitVec.ofNat 16 (f i) = BitVec.ofNat 16 (g i) :=
  List.map_inj_left.mp h i (List.mem_range.mpr hi)

/-! ### A rendering in two parts (45 R173) -/

/-- Where a channel stands in `t` as it does in `s` after `n` samples, and takes the same increments from there, it
runs through the same phases. -/
theorem tonePhaseAfter_of_increments {draw : DrawSource} {s t : State} {ch : Chan} {n : Nat}
    (start : t.tt.ttPhase.get ch = tonePhaseAfter draw s ch n)
    (increments : ∀ i, toneIncrement draw t ch i = toneIncrement draw s ch (n + i)) (i : Nat) :
    tonePhaseAfter draw t ch i = tonePhaseAfter draw s ch (n + i) := by
  induction i with
  | zero => exact start
  | succ i ih => rw [tonePhaseAfter, ih, increments, ← Nat.add_assoc, tonePhaseAfter]

/-- An enabled channel that does not sound, the muted channel 0, takes one addition (45 R169). -/
theorem tonePhaseEnd_of_muted (draw : DrawSource) (n : Nat) {s : State} {ch : Chan} (silent : toneAudible s ch = false)
    (walked : (toneExists s ch && toneEnabled s ch) = true) :
    tonePhaseEnd draw n s ch = s.tt.ttPhase.get ch + BitVec.ofNat 32 n * s.tt.ttStep.get ch := by
  rw [tonePhaseEnd, silent, walked, if_neg Bool.false_ne_true, if_pos rfl]

section Parts

variable (draw : DrawSource) (a : Nat) (s : State) (ch : Chan)

@[simp] theorem toneExists_render : toneExists (render draw a s) ch = toneExists s ch := by
  rw [toneExists, toneExists, render_cfg]

@[simp] theorem toneAudible_render : toneAudible (render draw a s) ch = toneAudible s ch := by
  simp [toneAudible]

@[simp] theorem musicAudible_render : musicAudible (render draw a s) ch = musicAudible s ch := by
  simp [musicAudible, musicExists]

/-- A noisy channel goes on in its own sequence of draws (log 6). -/
theorem toneIncrement_render (ha : toneAudible s ch = true) (i : Nat) :
    toneIncrement draw (render draw a s) ch i = toneIncrement draw s ch (a + i) := by
  cases hn : toneNoisy s ch <;> simp [toneIncrement, draws_render, drawsEnd, ha, hn, Nat.add_assoc]

theorem tonePhaseAfter_render (ha : toneAudible s ch = true) (i : Nat) :
    tonePhaseAfter draw (render draw a s) ch i = tonePhaseAfter draw s ch (a + i) :=
  tonePhaseAfter_of_increments ((ttPhase_render ..).trans (tonePhaseEnd_of_audible ha))
    (toneIncrement_render draw a s ch ha) i

theorem musicPhaseAfter_render (ha : musicAudible s ch = true) (i : Nat) :
    musicPhaseAfter (render draw a s) ch i = musicPhaseAfter s ch (a + i) := by
  simp only [musicPhaseAfter, mtPhase_render, musicPhaseEnd_of_audible ha, render_mtStep, BitVec.ofNat_add,
    BitVec.add_mul, BitVec.add_assoc]

theorem toneShare_render (i : Nat) : toneShare draw (render draw a s) ch i = toneShare draw s ch (a + i) := by
  cases ha : toneAudible s ch
  case true => simp [toneShare, ha, tonePhaseAfter_render, Nat.add_assoc]
  case false => simp [toneShare, ha]

theorem musicShare_render (i : Nat) : musicShare (render draw a s) ch i = musicShare s ch (a + i) := by
  cases ha : musicAudible s ch
  case true => simp [musicShare, ha, musicPhaseAfter_render, musicVolume, Nat.add_assoc]
  case false => simp [musicShare, ha]

/-- Sample `i` after a rendering of `a` samples is sample `a + i` before it. -/
theorem sampleAt_render (i : Nat) : sampleAt draw (render draw a s) i = sampleAt draw s (a + i) := by
  simp only [sampleAt, toneShare_render, musicShare_render]

/-- The muted channel 0 takes the two additions as one. -/
theorem tonePhaseEnd_render (b : Nat) :
    tonePhaseEnd draw b (render draw a s) ch = tonePhaseEnd draw (a + b) s ch := by
  cases ha : toneAudible s ch
  case true => rw [tonePhaseEnd_of_audible ha, tonePhaseEnd_of_audible (by rw [toneAudible_render, ha]),
    tonePhaseAfter_render draw a s ch ha]
  case false =>
    cases hw : toneExists s ch && toneEnabled s ch
    case true =>
      rw [tonePhaseEnd_of_muted draw _ ha hw, tonePhaseEnd_of_muted draw b, ttPhase_render,
        tonePhaseEnd_of_muted draw a ha hw, render_ttStep, BitVec.ofNat_add, BitVec.add_mul, BitVec.add_assoc]
      exacts [by rw [toneAudible_render, ha], by rw [toneExists_render, toneEnabled_render, hw]]
    case false =>
      rw [tonePhaseEnd_of_notWalked draw _ hw, tonePhaseEnd_of_notWalked draw b, ttPhase_render,
        tonePhaseEnd_of_notWalked draw a hw]
      rw [toneExists_render, toneEnabled_render, hw]

theorem drawsEnd_render (b : Nat) : drawsEnd b (render draw a s) ch = drawsEnd (a + b) s ch := by
  simp only [drawsEnd, toneAudible_render, toneNoisy_render, draws_render]
  split
  · exact Nat.add_assoc ..
  · rfl

theorem musicPhaseEnd_render (b : Nat) : musicPhaseEnd b (render draw a s) ch = musicPhaseEnd (a + b) s ch := by
  cases ha : musicAudible s ch
  case true => simp only [musicPhaseEnd, musicAudible_render, ha, if_true, musicPhaseAfter_render]
  case false => simp [musicPhaseEnd, ha, mtPhase_render]

end Parts

/-- Two renderings in turn are one of the two lengths together. -/
theorem render_render (draw : DrawSource) (a b : Nat) (s : State) :
    render draw b (render draw a s) = render draw (a + b) s := by
  have tones : tonePhaseEnd draw b (render draw a s) = tonePhaseEnd draw (a + b) s :=
    funext fun ch => tonePhaseEnd_render draw a s ch b
  have musics : musicPhaseEnd b (render draw a s) = musicPhaseEnd (a + b) s :=
    funext fun ch => musicPhaseEnd_render draw a s ch b
  have draws : drawsEnd b (render draw a s) = drawsEnd (a + b) s := funext fun ch => drawsEnd_render draw a s ch b
  have samples : sampleAt draw (render draw a s) = fun i => sampleAt draw s (a + i) :=
    funext fun i => sampleAt_render draw a s i
  rw [render_eq draw b, tones, musics, draws, samples, samples_render, render_cursor, List.append_assoc, ← buffer_add,
    Nat.add_assoc, render_eq draw a, render_eq draw (a + b)]
  rfl

/-- The two lengths of a rendering add without wrapping where their sum fits 32 bits (log 16). -/
theorem exec_render_add {a b : BitVec 32} (fits : a.toNat + b.toNat < 2 ^ 32) (s : State) :
    exec (.render (a + b)) s = .next (render Config.draw (a.toNat + b.toNat) s) := by
  rw [← BitVec.toNat_add_of_lt fits]
  rfl

/-- Settles O52, by `render_render`. -/
theorem renderSplitsAnywhere : Obligations.RenderSplitsAnywhere := by
  intro s a b fits
  rw [exec_render_add fits, ← render_render]
  exact runOps_pair rfl rfl

/-! ### The muted channel 0 (45 R169) -/

/-- The share of a tone channel in the samples does not depend on another one's control register. -/
theorem toneShare_setToneControl_of_ne (draw : DrawSource) (d : Byte) (s : State) {ch ch' : Chan} (other : ch' ≠ ch)
    (i : Nat) : toneShare draw (setToneControl ch d s) ch' i = toneShare draw s ch' i := by
  have control : (setToneControl ch d s).tt.ttCr.get ch' = s.tt.ttCr.get ch' := Trio.get_set_of_ne _ _ other
  have increments (j : Nat) :
      toneIncrement draw (setToneControl ch d s) ch' j = toneIncrement draw s ch' (0 + j) := by
    rw [toneIncrement, toneIncrement, toneNoisy, toneNoisy, control, Nat.zero_add]
    rfl
  have phases := tonePhaseAfter_of_increments (draw := draw) (s := s) (t := setToneControl ch d s) rfl increments
  rw [toneShare, toneShare, toneAudible, toneAudible, toneEnabled, toneEnabled, control, phases, Nat.zero_add]
  rfl

/-- A muted channel 0 does not sound, whatever its control register holds (decision D10). -/
theorem toneAudible_of_muted {s : State} (muted : channel0Mute s.sfx.sfxControl = true) :
    toneAudible s .ch0 = false := by
  rw [toneAudible, muted]
  exact Bool.and_false _

/-- Switching a muted channel 0 off changes no sample. -/
theorem sampleAt_mutedDisabled (draw : DrawSource) {s : State} (muted : channel0Mute s.sfx.sfxControl = true) (d : Byte)
    (i : Nat) : sampleAt draw (setToneControl .ch0 d s) i = sampleAt draw s i := by
  have silent (t : State) (h : t.sfx = s.sfx) : toneShare draw t .ch0 i = 0 :=
    toneShare_of_silent (toneAudible_of_muted (by rw [h, muted])) i
  have others {ch : Chan} (other : ch ≠ .ch0) := toneShare_setToneControl_of_ne draw d s other i
  rw [sampleAt, sampleAt, silent s rfl, silent (setToneControl .ch0 d s) rfl, others (by decide), others (by decide)]
  rfl

/-- Settles O48: the phase and the draws are read off the closed form, and channel 0 has no share in either stream. -/
theorem mutedChannelZeroRunsSilently : Obligations.MutedChannelZeroRunsSilently := by
  intro s n exists0 enabled muted
  have silent : toneAudible s .ch0 = false := toneAudible_of_muted muted
  have walked : (toneExists s .ch0 && toneEnabled s .ch0) = true := by
    rw [enabled, Bool.and_true]
    exact decide_eq_true exists0
  have phase : (render Config.draw n.toNat s).tt.ttPhase.get .ch0 = s.tt.ttPhase.ch0 + n * s.tt.ttStep.ch0 := by
    rw [ttPhase_render, tonePhaseEnd_of_muted _ _ silent walked, BitVec.ofNat_toNat, BitVec.setWidth_eq]
    rfl
  have draws : (render Config.draw n.toNat s).draws.get .ch0 = s.draws.ch0 := by
    rw [draws_render, drawsEnd, silent]
    rfl
  refine ⟨_, _, rfl, rfl, phase, draws, ?_⟩
  rw [samples_render, samples_render, buffer_congr (sampleAt_mutedDisabled Config.draw muted 0#8)]
  rfl

/-! ### A music channel switched off within a rendering (46 R193) -/

/-- The state with music channel `ch` disabled. -/
def gateOff (ch : Chan) (s : State) : State := { s with mt := { s.mt with mtEnabled := s.mt.mtEnabled.set ch false } }

/-- A gate byte that names a channel and has an empty gate field switches the channel off after the flush. -/
theorem exec_mtWgate_off {d : Byte} {ch : Chan} {s : State} (named : gateChannel d = some ch)
    (empty : gateField s.cfg d = 0#3) (k : BitVec 32) :
    exec (.mtWgate d k) s = .next (gateOff ch (render Config.draw k.toNat s)) := by
  rw [exec_mtWgate_of_channel named, empty]
  rfl

section GateOff

variable (draw : DrawSource) (s : State) (ch : Chan)

theorem toneShare_gateOff (ch' : Chan) (i : Nat) : toneShare draw (gateOff ch s) ch' i = toneShare draw s ch' i := by
  have phases := tonePhaseAfter_of_increments (draw := draw) (s := s) (t := gateOff ch s) (ch := ch') (n := 0) rfl
    fun j => by rw [Nat.zero_add]; rfl
  rw [toneShare, toneShare, phases, Nat.zero_add]
  rfl

theorem musicShare_gateOff (ch' : Chan) (i : Nat) :
    musicShare (gateOff ch s) ch' i = if ch' = ch then 0 else musicShare s ch' i := by
  have enabled : (gateOff ch s).mt.mtEnabled.get ch' = if ch' = ch then false else s.mt.mtEnabled.get ch' :=
    Trio.get_set ..
  rw [musicShare, musicAudible, enabled]
  split
  · rw [Bool.and_false, Bool.false_and, if_neg Bool.false_ne_true]
  · rfl

/-- A sample is the one without music channel `ch`, and that channel's share. -/
theorem sampleAt_gateOff_add (i : Nat) : sampleAt draw (gateOff ch s) i + musicShare s ch i = sampleAt draw s i := by
  simp only [sampleAt, toneShare_gateOff, musicShare_gateOff]
  cases ch <;> simp only [reduceCtorEq, if_true, if_false] <;> omega

theorem sampleAt_gateOff (i : Nat) : sampleAt draw (gateOff ch s) i = sampleAt draw s i - musicShare s ch i :=
  Nat.eq_sub_of_add_eq (sampleAt_gateOff_add draw s ch i)

theorem musicShare_le_sampleAt (i : Nat) : musicShare s ch i ≤ sampleAt draw s i :=
  le_of_le_of_eq (Nat.le_add_left ..) (sampleAt_gateOff_add draw s ch i)

theorem musicShare_lt (i : Nat) : musicShare s ch i < 2 ^ 16 := by
  unfold musicShare
  split
  · exact BitVec.isLt _
  · decide

/-- The stream of a rendering in which music channel `ch` is switched off after `k` samples. -/
theorem samples_gatedOff (k m : Nat) :
    (render draw m (gateOff ch (render draw k s))).samples =
      s.samples ++ buffer (fun i => sampleAt draw s i - if i < k then 0 else musicShare s ch i) (k + m) := by
  have before : buffer (sampleAt draw s) k =
      buffer (fun i => sampleAt draw s i - if i < k then 0 else musicShare s ch i) k :=
    buffer_congr_of_lt fun i hi => by rw [if_pos hi, Nat.sub_zero]
  have behind : buffer (sampleAt draw (gateOff ch (render draw k s))) m =
      buffer (fun i => sampleAt draw s (k + i) - if k + i < k then 0 else musicShare s ch (k + i)) m :=
    buffer_congr (fun i => by
      rw [sampleAt_gateOff, sampleAt_render, musicShare_render, if_neg (Nat.not_lt.mpr (Nat.le_add_right k i))]) m
  rw [samples_render, behind, buffer_add, ← before, ← List.append_assoc, ← samples_render]
  rfl

end GateOff

/-- Values that differ by a share that is not 0 are different in 16 bits too. -/
theorem ofNat16_sub_ne {v share : Nat} (nonzero : share ≠ 0) (small : share < 2 ^ 16) (le : share ≤ v) :
    BitVec.ofNat 16 (v - share) ≠ BitVec.ofNat 16 v := by
  rw [Ne, BitVec.toNat_eq, BitVec.toNat_ofNat, BitVec.toNat_ofNat]
  omega

/-- Two streams differ where one has music channel `ch` in a sample that it sounds in and the other does not. -/
theorem streams_ne_of_share {f g : Nat → Nat} {n i : Nat} (s : State) (ch : Chan) (pre : List Sample)
    (hi : i < n) (nonzero : musicShare s ch i ≠ 0) (hf : f i = sampleAt Config.draw s i - musicShare s ch i)
    (hg : g i = sampleAt Config.draw s i) : pre ++ buffer f n ≠ pre ++ buffer g n := by
  intro same
  have equal := sample_eq_of_buffer_eq (List.append_cancel_left same) hi
  rw [hf, hg] at equal
  exact ofNat16_sub_ne nonzero (musicShare_lt s ch i) (musicShare_le_sampleAt _ s ch i) equal

/-- Settles O55: the three streams are those of one rendering gated off after `k` samples, after none, and after all;
the first differs from the others at a sample that the channel sounds in. -/
theorem gateOffIsSampleAccurate : Obligations.GateOffIsSampleAccurate := by
  intro s ch d k m named empty fits
  have onTime := samples_gatedOff Config.draw s ch k.toNat m.toNat
  have early := samples_gatedOff Config.draw s ch 0 (k.toNat + m.toNat)
  simp only [Nat.not_lt_zero, if_false, Nat.zero_add] at early
  have late : (gateOff ch (render Config.draw 0 (render Config.draw (k.toNat + m.toNat) s))).samples =
      s.samples ++ buffer (sampleAt Config.draw s) (k.toNat + m.toNat) := by
    rw [render_zero]
    exact samples_render ..
  refine ⟨_, _, _, runOps_pair (exec_mtWgate_off named empty k) rfl,
    runOps_pair (exec_mtWgate_off named empty 0#32) (exec_render_add fits _),
    runOps_pair (exec_render_add fits s) (exec_mtWgate_off named (by rw [render_cfg, empty]) 0#32),
    onTime, early, late, ?_, ?_⟩
  · rintro ⟨i, before, sounds⟩ same
    exact streams_ne_of_share s ch s.samples (Nat.lt_add_right _ before) sounds rfl
      (by rw [if_pos before, Nat.sub_zero]) (early.symm.trans (same.symm.trans onTime))
  · rintro ⟨i, behind, inside, sounds⟩ same
    exact streams_ne_of_share s ch s.samples inside sounds
      (by rw [if_neg (Nat.not_lt.mpr behind)]) rfl (onTime.symm.trans (same.trans late))

end Sys2Proof.Machine
end

section
/-! Proofs for 46_register_dispatch_with_flush: the offsets that the map does not list (O57). -/

namespace Sys2Proof.Machine

/-- A write that mutates nothing is the rendering of its flush (46 R186, R188). -/
theorem busWrite_nothing (k : BitVec 32) (s : State) : busWrite k (fun u => u) s = exec (.render k) s := rfl

/-- A read of a free byte answers it and counts it, and changes nothing else (46 R189; log 7). -/
theorem busReadOpen_eq (b : Byte) (s : State) :
    busReadOpen b s = { s with readData := some b, openReads := s.openReads + 1 } := rfl

/-- Settles O57: the write is a `busWrite` that mutates nothing, and each read is a `busReadOpen` of its free byte. -/
theorem unlistedOffsetsHaveNoEffect : Obligations.UnlistedOffsetsHaveNoEffect := by
  refine ⟨fun s off d k => ?write, fun s off => ?itRead, fun s off => ?ttRead, fun s off => ?mtRead,
    fun s off => ?sfxRead⟩
  case write => exact busWrite_nothing k s
  case itRead | ttRead | mtRead | sfxRead => exact ⟨_, congrArg Host.Outcome.next (busReadOpen_eq _ s)⟩

end Sys2Proof.Machine
end

section
/-! Proofs for 60_exceptions: the calls of the output callback (O10; 60 R203). -/

namespace Sys2Proof.Machine

/-- Every effect calls for the net change of the level: an update of the timer by `setTimer`, any other by none. -/
theorem Effect.irqCalls {i : Instr} {u t : State} (e : Effect i u t) :
    t.irqCalls = callsAfter u.irqCalls u.it.irqLine t.it.irqLine := by
  cases e with
  | portLatches | load | flagRead | ticks => rfl
  | counterRead =>
    rw [readCounter_eq]
    rfl
  | nothing | otherRead | openRead | toneControl | toneMsb | toneCommit | musicLow | musicHigh | musicEnable
  | sfxControl | sfxVolume => exact (callsAfter_same ..).symm

/-- Every operation calls for the net change of the level, and for nothing else (60 R203; decision D25). -/
theorem exec_irqCalls {i : Instr} {s t : State} (h : exec i s = .next t) :
    t.irqCalls = callsAfter s.irqCalls s.it.irqLine t.it.irqLine := by
  by_cases hi : i = .reset
  · subst hi
    cases h
    rfl
  · have calls := (exec_effect h hi).irqCalls
    rwa [render_irqCalls, render_it] at calls

/-- A call for the net change keeps the calls in line: the level before it is the last one called, so that a changed
level differs from it. -/
theorem CallsFollowLine.of_callsAfter {s t : State} (follows : CallsFollowLine s)
    (calls : t.irqCalls = callsAfter s.irqCalls s.it.irqLine t.it.irqLine) : CallsFollowLine t := by
  obtain ⟨alternate, last⟩ := follows
  by_cases same : t.it.irqLine = s.it.irqLine
  · rw [same, callsAfter_same] at calls
    exact ⟨calls ▸ alternate, by rw [calls, last, same]⟩
  · rw [callsAfter_changed _ same] at calls
    have differs : ∀ a ∈ (false :: s.irqCalls).getLast?, ∀ b ∈ [t.it.irqLine].head?, a ≠ b := by
      rw [List.getLast?_cons, ← List.getLastD_eq_getLast?, last]
      rintro _ ⟨⟩ _ ⟨⟩
      exact Ne.symm same
    exact ⟨calls ▸ alternate.append (.singleton _) differs, by rw [calls, List.getLastD_concat]⟩

/-- Settles O10: at reset no call is made and the line is low, and a step calls for the net change of its operation. -/
theorem stepKeepsCallsOnChangesOnly : Obligations.StepKeepsCallsOnChangesOnly := by
  refine ⟨⟨.singleton _, rfl⟩, fun s t follows h => ?_⟩
  obtain ⟨-, e⟩ | ⟨w, rest, i, -, -, e⟩ | ⟨w, rest, why, -, -, e⟩ := step_cases s <;> rw [e] at h
  · cases h
    exact follows
  · exact .of_callsAfter (s := { s with trace := rest }) follows (exec_irqCalls h)
  · cases h

end Sys2Proof.Machine
end
